-- ==== Sys2Proof/Word.lean ====
section
/-! DEFINITION. The number types of the BD40 model: bytes and words the manual treats as bits, and the indexes of its
fixed tables (spec/00_scope.md, Conventions, Numbering). -/

namespace Sys2Proof

/-- One byte of a frame (13 R180). -/
abbrev Byte := BitVec 8

/-- A CRC-16 register and the settled digest (12 R178, 13 R182). -/
abbrev Crc := BitVec 16

/-- A 32-bit count: the coach clock (07 R119) and the admission counter (03 R50). -/
abbrev Count32 := BitVec 32

/-- A port, berth or Berth Table slot, 0..39. -/
abbrev Port := Fin 40

/-- A Roster slot, 0..15, which is the announcement's handle (03 R48). -/
abbrev Handle := Fin 16

/-- A feed index, 0..13: P0..P11, N0 = 12, N1 = 13 (11 R163). -/
abbrev FeedIx := Fin 14

/-- A program channel, program or program feed, 0..11. -/
abbrev Program := Fin 12

/-- An announcement channel A0..A3 (03 R56); on the lane it is channel 12 + the value. -/
abbrev Channel := Fin 4

/-- A set of ports, held ascending and without repeats (03 R49: a set has no order and no repeats). -/
abbrev PortSet := List Port

/-- All 40 ports in ascending order. -/
def allPorts : List Port := List.finRange 40

/-- All 16 Roster slots in ascending order. -/
def allHandles : List Handle := List.finRange 16

/-- All 14 feeds in index order. -/
def allFeeds : List FeedIx := List.finRange 14

end Sys2Proof
end

