-- ==== Sys2Proof/Config.lean ====
section
/-! DEFINITION. What an implementation fixes and what the manual leaves open: the free values, as constants with no body
(log entry 1), and the fixed durations the manual states outside any register. -/

namespace Sys2Proof

/-- Free value (log 1): how much of a running timer's loaded time has not yet run when a response reports it
(09 R148, 11 R168). The model bounds it by the time loaded. -/
opaque Config.freeTime : Nat → Nat

/-- Free value (log 1): a byte on MISO that no layout gives (12 R171), and the request code answered for a request
write of no byte (12 R170). -/
opaque Config.freeByte : Nat → Byte

/-- The fixed discharge interval of a POWER_OFF, in ms (09 R143). -/
def Config.dischargeMs : Nat := 20

/-- The number of misses in a row that makes an ACTIVE port FAULT(LINK) (09 R145). -/
def Config.missLimit : Nat := 3

/-- At most this many presses of one Response are handled (07 R113). -/
def Config.pressLimit : Nat := 3

/-- At most this many entries stand in one CALL_LIST response (07 R122). -/
def Config.callListLimit : Nat := 16

/-- At most this many ports of one deck carry the crew mark (09 R147). -/
def Config.crewLimit : Nat := 4

end Sys2Proof
end

