-- ==== Sys2Proof/Syntax.lean ====
section
/-! DEFINITION. The commands of the BD40, one constructor per row of spec/opcode_table.json.

A head-unit request carries its parameter items as spec/13 R181 lays them out, so that the owning block judges unknown,
missing, repeated, absent and out-of-range fields itself (R51, R87, R172, R181). An event carries the port, deck, feed or
Roster slot it happens at, and a received frame its bytes. -/

namespace Sys2Proof

/-- One parameter item of a request: a field identifier byte and its value bytes (13 R181). No value byte is "absent". -/
structure Item where
  id : Byte
  value : List Byte
  deriving DecidableEq, Repr

/-- The two decks (00; 10 R150). -/
inductive Deck where
  | lower
  | upper
  deriving DecidableEq, Repr

/-- The filtered level of ALERT_IN (08 R125). -/
inductive Level where
  | low
  | high
  deriving DecidableEq, Repr

/-- The levels standing on the input lines when a power-on reset ends: the presence senses the Port Controller then
reads (09 R149), the power-fault senses that act at the closing of each switch (09 R141), and the level of ALERT_IN the
Alert Unit takes as its last level (08 R127). -/
structure Pins where
  presence : Vector Bool 40
  fault : Vector Bool 40
  alertIn : Level
  deriving DecidableEq, Repr

/-- The expiry of a timer of a deck, port, slot or feed. `late` says that a command taken before it has loaded that timer
afresh, cancelled it or ended its turn, so that it is not taken (05 R93, 10 R158, 11 R169; DEDUCED, log 13). -/
structure Expiry (α : Type) where
  site : α
  late : Bool
  deriving DecidableEq, Repr

/-- The commands: the rows of spec/opcode_table.json, in the table's order. -/
inductive Instr where
  /-- RST_N low or power-up (12 R174), with the input levels standing when it ends. -/
  | powerOnReset (pins : Pins)
  /-- A request write that cannot be parsed as a request (12 R170): its bytes. -/
  | badRequest (frame : List Byte)
  /-- A response read (12 R171): how many bytes are clocked out after the read code before CS_N rises. -/
  | responseRead (clocked : Nat)
  | openBerth (items : List Item)
  | amendBerth (items : List Item)
  | retireBerth (items : List Item)
  | lookupBerth (items : List Item)
  | findOccupant (items : List Item)
  | listOccupied (items : List Item)
  | announce (items : List Item)
  | endAnnounce (items : List Item)
  | cancelAnnounce (items : List Item)
  | releaseAnnounce (items : List Item)
  | lookupAnnounce (items : List Item)
  | listAnnounce (items : List Item)
  | setPolicy (items : List Item)
  | readPolicy (items : List Item)
  | setQuiet (items : List Item)
  | lightsOut (items : List Item)
  | routeProgressApproach (items : List Item)
  | routeProgressArrive (items : List Item)
  | routeProgressDepart (items : List Item)
  | setWakeProfile (items : List Item)
  | readWakeProfile (items : List Item)
  | wakeCancel (items : List Item)
  | setButtonWindow (items : List Item)
  | callNext (items : List Item)
  | callList (items : List Item)
  | callAttend (items : List Item)
  | callClose (items : List Item)
  | alertRaise (items : List Item)
  | alertClear (items : List Item)
  | resume (items : List Item)
  | setAlertConfig (items : List Item)
  | readAlert (items : List Item)
  | portPower (items : List Item)
  | portConfig (items : List Item)
  | portQuery (items : List Item)
  | setPortTiming (items : List Item)
  | setPollMode (items : List Item)
  | setPollTimeout (items : List Item)
  | readPoll (items : List Item)
  | configureFeed (items : List Item)
  | unconfigureFeed (items : List Item)
  | feedQuery (items : List Item)
  | setFeedStall (items : List Item)
  | partReset (items : List Item)
  | tripReset (items : List Item)
  | setEventEnables (items : List Item)
  | readSummary (items : List Item)
  | readBerthEvents (items : List Item)
  | ackBerthEvents (items : List Item)
  | ackCoachEvents (items : List Item)
  | setDigest (items : List Item)
  | readDigest (items : List Item)
  /-- A frame received on a deck bus (10 R158). `late` says that the turn it answers has already ended. -/
  | response (deck : Deck) (late : Bool) (frame : List Byte)
  | responseTimerExpiry (expiry : Expiry Deck)
  | presenceRise (port : Port)
  | presenceFall (port : Port)
  /-- A change of the port's power-fault sense to `asserted` (09 R141): true is the assertion of the row. -/
  | powerFault (port : Port) (asserted : Bool)
  | powerGood (port : Port)
  | powerGoodTimerExpiry (expiry : Expiry Port)
  | dischargeEnd (expiry : Expiry Port)
  | linkTimerExpiry (expiry : Expiry Port)
  /-- The filtered ALERT_IN level becomes `level` (08 R127). -/
  | alertInEdge (level : Level)
  | inactivityExpiry (expiry : Expiry Port)
  | windowExpiry (expiry : Expiry Port)
  | stepBoundary (expiry : Expiry Port)
  | stage1Expiry (expiry : Expiry Port)
  | stage2Expiry (expiry : Expiry Port)
  | leadInEnd (expiry : Expiry Handle)
  | durationExpiry (expiry : Expiry Handle)
  | gapExpiry (expiry : Expiry Handle)
  | stallTimerExpiry (expiry : Expiry FeedIx)
  /-- A frame on the media input port (11 R165, 13 R183): the bytes taken from its strobe on. -/
  | dataFrame (bytes : List Byte)
  | endFrame (bytes : List Byte)
  | walkComplete
  | coachClockTick
  deriving DecidableEq, Repr

end Sys2Proof
end

