-- ==== Sys2Proof/Decode.lean ====
section
/-! DEFINITION. From bytes to commands and frames: the CRC-16 (spec/13 R182), the request write and its encoder
(12 R170, 13 R181), the Response frame of a deck bus and the feed frame (13 R183), and `decodeTableWord`. -/

namespace Sys2Proof

/-! ### Bytes and numbers, most significant byte first (13 R180) -/

/-- The unsigned number a run of bytes carries. -/
def natOfBytes (v : List Byte) : Nat := v.foldl (fun n b => n * 256 + b.toNat) 0

/-- A number as `width` bytes. -/
def bytesOfNat : (width : Nat) → (n : Nat) → List Byte
  | 0, _ => []
  | w + 1, n => BitVec.ofNat 8 (n / 256 ^ w) :: bytesOfNat w n

/-! ### CRC-16 (13 R182) -/

/-- One shift toward the most significant bit. -/
def crcShiftUp (poly c : Crc) : Crc := if c.msb then (c <<< 1) ^^^ poly else c <<< 1

/-- One shift toward the least significant bit; `poly` is in reversed bit order. -/
def crcShiftDown (poly c : Crc) : Crc := if c.getLsbD 0 then (c >>> 1) ^^^ poly else c >>> 1

/-- Feeding one byte, MSB-first: into the upper eight bits, then eight shifts. -/
def crcByteUp (poly c : Crc) (b : Byte) : Crc :=
  (List.range 8).foldl (fun c _ => crcShiftUp poly c) (c ^^^ (b.setWidth 16 <<< 8))

/-- Feeding one byte, LSB-first: into the lower eight bits, then eight shifts. -/
def crcByteDown (poly c : Crc) (b : Byte) : Crc :=
  (List.range 8).foldl (fun c _ => crcShiftDown poly c) (c ^^^ b.setWidth 16)

/-- The register starts at 0xFFFF; the result is the register after the last byte. -/
def crcUp (poly : Crc) (bytes : List Byte) : Crc := bytes.foldl (crcByteUp poly) 0xFFFF#16

def crcDown (poly : Crc) (bytes : List Byte) : Crc := bytes.foldl (crcByteDown poly) 0xFFFF#16

/-- The CRC-16 of every frame: DIGEST-A, MSB-first, seed 0xFFFF, whatever SET_DIGEST says (R180). -/
def frameCrc (bytes : List Byte) : Crc := crcUp 0x1021#16 bytes

/-- A frame body with its CRC-16 in the last two bytes. -/
def sealFrame (body : List Byte) : List Byte := body ++ bytesOfNat 2 (frameCrc body).toNat

/-- The body of a frame whose last two bytes are its CRC-16. -/
def openFrame (frame : List Byte) : Option (List Byte) :=
  let body := frame.take (frame.length - 2)
  if 2 ≤ frame.length ∧ frame = sealFrame body then some body else none

/-! ### Request writes (12 R170, 13 R181) -/

/-- The parameter items of a request body; none if an item runs past the end or stops short of it. -/
def readItems : (fuel : Nat) → List Byte → Option (List Item)
  | _, [] => some []
  | fuel + 1, id :: len :: rest =>
    if len.toNat ≤ rest.length then
      (readItems fuel (rest.drop len.toNat)).map (⟨id, rest.take len.toNat⟩ :: ·)
    else none
  | _, _ => none

/-- The bytes of parameter items. -/
def itemBytes (items : List Item) : List Byte :=
  items.flatMap fun i => i.id :: BitVec.ofNat 8 i.value.length :: i.value

/-- The header check: 255 minus ((byte 0 + byte 1) mod 256). -/
def headerCheck (code len : Byte) : Byte := 255#8 - (code + len)

/-- The request code and items of a frame that the Command Port can parse; none is BAD_REQUEST, but for the code. -/
def readRequest : List Byte → Option (Byte × List Item)
  | code :: len :: chk :: body =>
    if body.length + 3 ≤ 200 ∧ len.toNat = body.length + 3 ∧ chk = headerCheck code len then
      (readItems body.length body).map fun items => (code, items)
    else none
  | _ => none

/-- The kinds of ROUTE_PROGRESS (06 R104), which the table gives three rows. -/
inductive RouteKind where
  | approach
  | arrive
  | depart
  deriving DecidableEq, Repr

/-- The row of a ROUTE_PROGRESS request: ARRIVE and DEPART by their kind item; every other request, one whose kind is
none of the three included, is taken (and there refused) as the first row (DEDUCED, log 11). -/
def routeRow (items : List Item) : RouteKind :=
  match (items.find? fun i => i.id = 1#8).map Item.value with
  | some [1#8] => .arrive
  | some [2#8] => .depart
  | _ => .approach

/-- The request a code names, by the code table of R181 over the order of R173. -/
def requestOfCode (code : Byte) (items : List Item) : Option Instr :=
  match code.toNat with
  | 0x10 => some (.openBerth items)
  | 0x11 => some (.amendBerth items)
  | 0x12 => some (.retireBerth items)
  | 0x13 => some (.lookupBerth items)
  | 0x14 => some (.findOccupant items)
  | 0x15 => some (.listOccupied items)
  | 0x20 => some (.announce items)
  | 0x21 => some (.endAnnounce items)
  | 0x22 => some (.cancelAnnounce items)
  | 0x23 => some (.releaseAnnounce items)
  | 0x24 => some (.lookupAnnounce items)
  | 0x25 => some (.listAnnounce items)
  | 0x30 => some (.setPolicy items)
  | 0x31 => some (.readPolicy items)
  | 0x32 => some (.setQuiet items)
  | 0x33 => some (.lightsOut items)
  | 0x40 =>
    match routeRow items with
    | .approach => some (.routeProgressApproach items)
    | .arrive => some (.routeProgressArrive items)
    | .depart => some (.routeProgressDepart items)
  | 0x41 => some (.setWakeProfile items)
  | 0x42 => some (.readWakeProfile items)
  | 0x43 => some (.wakeCancel items)
  | 0x50 => some (.setButtonWindow items)
  | 0x51 => some (.callNext items)
  | 0x52 => some (.callList items)
  | 0x53 => some (.callAttend items)
  | 0x54 => some (.callClose items)
  | 0x60 => some (.alertRaise items)
  | 0x61 => some (.alertClear items)
  | 0x62 => some (.resume items)
  | 0x63 => some (.setAlertConfig items)
  | 0x64 => some (.readAlert items)
  | 0x70 => some (.portPower items)
  | 0x71 => some (.portConfig items)
  | 0x72 => some (.portQuery items)
  | 0x73 => some (.setPortTiming items)
  | 0x80 => some (.setPollMode items)
  | 0x81 => some (.setPollTimeout items)
  | 0x82 => some (.readPoll items)
  | 0x88 => some (.configureFeed items)
  | 0x89 => some (.unconfigureFeed items)
  | 0x8A => some (.feedQuery items)
  | 0x8B => some (.setFeedStall items)
  | 0x90 => some (.partReset items)
  | 0x91 => some (.tripReset items)
  | 0x92 => some (.setEventEnables items)
  | 0x93 => some (.readSummary items)
  | 0x94 => some (.readBerthEvents items)
  | 0x95 => some (.ackBerthEvents items)
  | 0x96 => some (.ackCoachEvents items)
  | 0x97 => some (.setDigest items)
  | 0x98 => some (.readDigest items)
  | _ => none

/-- The request code and items of a command that is a head-unit request; none for every other row. -/
def requestParts : Instr → Option (Byte × List Item)
  | .openBerth items => some (0x10#8, items)
  | .amendBerth items => some (0x11#8, items)
  | .retireBerth items => some (0x12#8, items)
  | .lookupBerth items => some (0x13#8, items)
  | .findOccupant items => some (0x14#8, items)
  | .listOccupied items => some (0x15#8, items)
  | .announce items => some (0x20#8, items)
  | .endAnnounce items => some (0x21#8, items)
  | .cancelAnnounce items => some (0x22#8, items)
  | .releaseAnnounce items => some (0x23#8, items)
  | .lookupAnnounce items => some (0x24#8, items)
  | .listAnnounce items => some (0x25#8, items)
  | .setPolicy items => some (0x30#8, items)
  | .readPolicy items => some (0x31#8, items)
  | .setQuiet items => some (0x32#8, items)
  | .lightsOut items => some (0x33#8, items)
  | .routeProgressApproach items => some (0x40#8, items)
  | .routeProgressArrive items => some (0x40#8, items)
  | .routeProgressDepart items => some (0x40#8, items)
  | .setWakeProfile items => some (0x41#8, items)
  | .readWakeProfile items => some (0x42#8, items)
  | .wakeCancel items => some (0x43#8, items)
  | .setButtonWindow items => some (0x50#8, items)
  | .callNext items => some (0x51#8, items)
  | .callList items => some (0x52#8, items)
  | .callAttend items => some (0x53#8, items)
  | .callClose items => some (0x54#8, items)
  | .alertRaise items => some (0x60#8, items)
  | .alertClear items => some (0x61#8, items)
  | .resume items => some (0x62#8, items)
  | .setAlertConfig items => some (0x63#8, items)
  | .readAlert items => some (0x64#8, items)
  | .portPower items => some (0x70#8, items)
  | .portConfig items => some (0x71#8, items)
  | .portQuery items => some (0x72#8, items)
  | .setPortTiming items => some (0x73#8, items)
  | .setPollMode items => some (0x80#8, items)
  | .setPollTimeout items => some (0x81#8, items)
  | .readPoll items => some (0x82#8, items)
  | .configureFeed items => some (0x88#8, items)
  | .unconfigureFeed items => some (0x89#8, items)
  | .feedQuery items => some (0x8A#8, items)
  | .setFeedStall items => some (0x8B#8, items)
  | .partReset items => some (0x90#8, items)
  | .tripReset items => some (0x91#8, items)
  | .setEventEnables items => some (0x92#8, items)
  | .readSummary items => some (0x93#8, items)
  | .readBerthEvents items => some (0x94#8, items)
  | .ackBerthEvents items => some (0x95#8, items)
  | .ackCoachEvents items => some (0x96#8, items)
  | .setDigest items => some (0x97#8, items)
  | .readDigest items => some (0x98#8, items)
  | .powerOnReset _ => none
  | .badRequest _ => none
  | .responseRead _ => none
  | .response _ _ _ => none
  | .responseTimerExpiry _ => none
  | .presenceRise _ => none
  | .presenceFall _ => none
  | .powerFault _ _ => none
  | .powerGood _ => none
  | .powerGoodTimerExpiry _ => none
  | .dischargeEnd _ => none
  | .linkTimerExpiry _ => none
  | .alertInEdge _ => none
  | .inactivityExpiry _ => none
  | .windowExpiry _ => none
  | .stepBoundary _ => none
  | .stage1Expiry _ => none
  | .stage2Expiry _ => none
  | .leadInEnd _ => none
  | .durationExpiry _ => none
  | .gapExpiry _ => none
  | .stallTimerExpiry _ => none
  | .dataFrame _ => none
  | .endFrame _ => none
  | .walkComplete => none
  | .coachClockTick => none

/-- The request a request write parses as (R170); none is BAD_REQUEST. -/
def requestOfFrame (frame : List Byte) : Option Instr :=
  (readRequest frame).bind fun r => requestOfCode r.1 r.2

/-- The request write of a code and items (R181): the encoder. -/
def requestFrame (code : Byte) (items : List Item) : List Byte :=
  let body := itemBytes items
  let len := BitVec.ofNat 8 (body.length + 3)
  code :: len :: headerCheck code len :: body

/-- The command of one SPI transfer, from the fall of CS_N to its rise (R170): a response read if it begins with the
read code 0x00, else a request write. -/
def commandOfTransfer (mosi : List Byte) : Instr :=
  match mosi with
  | 0#8 :: rest => .responseRead rest.length
  | _ =>
    match requestOfFrame mosi with
    | some c => c
    | none => .badRequest mosi

/-! ### Response frames of a deck bus (13 R183) -/

/-- The kind of a turn (10 R158). -/
inductive TurnKind where
  | identify
  | normal
  deriving DecidableEq, Repr

/-- What a berth unit says it is (09 R139): the two kinds, or the code of any other kind as reported. -/
inductive UnitKind where
  | screenAudio
  | audioOnly
  | other (code : Byte)
  deriving DecidableEq, Repr

/-- SCREEN_AUDIO 1, AUDIO_ONLY 2, other values unacceptable (R183). -/
def UnitKind.ofCode (code : Byte) : UnitKind :=
  if code = 1#8 then .screenAudio else if code = 2#8 then .audioOnly else .other code

def UnitKind.code : UnitKind → Byte
  | .screenAudio => 1#8
  | .audioOnly => 2#8
  | .other c => c

/-- A unit's identity: kind and protocol level 0..15 (09 R139). -/
structure Identity where
  kind : UnitKind
  level : Nat
  deriving DecidableEq, Repr

/-- What a good Response carries (10 R159, 13 R183). -/
structure UnitReport where
  fault : Bool
  identity : Option Identity
  version : Option Nat
  headphones : Bool
  presses : BitVec 4
  number : BitVec 4
  requests : List (Byte × Byte)
  deriving DecidableEq, Repr

/-- Bytes in pairs: a passenger request is a code byte and a value byte. -/
def bytePairs : List Byte → List (Byte × Byte)
  | a :: b :: rest => (a, b) :: bytePairs rest
  | _ => []

/-- The five fields after the unit status (and identity), and the requests, of a frame without its CRC. -/
def readReportTail (fault : Bool) (identity : Option Identity) : List Byte → Option UnitReport
  | version :: headphones :: presses :: number :: count :: requests =>
    if headphones.toNat ≤ 1 ∧ presses.toNat ≤ 15 ∧ number.toNat ≤ 15 ∧ count.toNat ≤ 2 ∧
        requests.length = 2 * count.toNat then
      some { fault := fault, identity := identity
             version := if version = 0#8 then none else some version.toNat
             headphones := headphones = 1#8
             presses := presses.setWidth 4, number := number.setWidth 4
             requests := bytePairs requests }
    else none
  | _ => none

/-- The form check of R183 on a frame without its CRC: kind and port of the turn, lengths and ranges. -/
def readReportBody (kind : TurnKind) (port : Port) : List Byte → Option UnitReport
  | k :: p :: status :: rest =>
    if p.toNat = port.val then
      match kind with
      | .identify =>
        if k = 0x81#8 then
          match rest with
          | unit :: level :: tail =>
            if level.toNat ≤ 15 then
              readReportTail (status != 0#8) (some ⟨UnitKind.ofCode unit, level.toNat⟩) tail
            else none
          | _ => none
        else none
      | .normal => if k = 0x82#8 then readReportTail (status != 0#8) none rest else none
    else none
  | _ => none

/-- A Response that passes its check (R158, R183); none ends the turn as a miss. -/
def readReport (kind : TurnKind) (port : Port) (frame : List Byte) : Option UnitReport :=
  (openFrame frame).bind (readReportBody kind port)

/-- The bytes of a report: the encoder beside `readReport`. -/
def reportFrame (kind : TurnKind) (port : Port) (status : Byte) (r : UnitReport) : List Byte :=
  let unit : List Byte :=
    match r.identity with
    | some i => [i.kind.code, BitVec.ofNat 8 i.level]
    | none => []
  let k : Byte := match kind with
    | .identify => 0x81#8
    | .normal => 0x82#8
  sealFrame ([k, BitVec.ofNat 8 port.val, status] ++ unit ++
    [BitVec.ofNat 8 (r.version.getD 0), if r.headphones then 1#8 else 0#8, r.presses.setWidth 8, r.number.setWidth 8,
      BitVec.ofNat 8 r.requests.length] ++ r.requests.flatMap fun q => [q.1, q.2])

/-! ### Feed frames of the media input port (11 R165, 13 R183) -/

/-- The kind of a good feed frame. -/
inductive FrameKind where
  | data
  | endOfItem
  deriving DecidableEq, Repr

/-- A good feed frame. -/
structure FeedFrame where
  feed : FeedIx
  kind : FrameKind
  payload : List Byte
  deriving DecidableEq, Repr

/-- The good frame that begins at the strobe, if any: sync, index, kind, payload length and CRC all right. Bytes past
its last CRC byte are outside the frame; too few bytes is a strobe taken before the frame was complete. -/
def readFeedFrame (bytes : List Byte) : Option FeedFrame :=
  match bytes with
  | sync :: ix :: kind :: hi :: lo :: rest =>
    let len := natOfBytes [hi, lo]
    if h : ix.toNat < 14 then
      if sync = 0xC3#8 ∧ (kind = 1#8 ∧ len ≤ 1024 ∨ kind = 2#8 ∧ len = 0) ∧
          (openFrame ([sync, ix, kind, hi, lo] ++ rest.take (len + 2))).isSome ∧ len + 2 ≤ rest.length then
        some { feed := ⟨ix.toNat, h⟩, kind := if kind = 1#8 then .data else .endOfItem, payload := rest.take len }
      else none
    else none
  | _ => none

/-- The bytes of a feed frame: the encoder beside `readFeedFrame`. -/
def feedFrameBytes (f : FeedFrame) : List Byte :=
  sealFrame ([0xC3#8, BitVec.ofNat 8 f.feed.val, match f.kind with
    | .data => 1#8
    | .endOfItem => 2#8] ++ bytesOfNat 2 f.payload.length ++ f.payload)

/-! ### The host's word -/

/-- No row of spec/opcode_table.json gives bits, so no word spells a command. -/
def decodeTableWord (_nbits _w : Nat) : Option Instr := none

end Sys2Proof
end

