-- ==== Sys2Proof/WellFormed.lean ====
section
/-! DEFINITION. Which terms of Instr are commands of the BD40: a request's items must fit a frame (spec/13 R181), and a
row's bytes must be that row's (12 R170; 06 R104; 11 R165). -/

namespace Sys2Proof

/-- The items fit a request frame: at most 255 value bytes each, at most 197 bytes together (R181). -/
def itemsFit (items : List Item) : Bool :=
  items.all (fun i => decide (i.value.length ≤ 255)) && decide ((itemBytes items).length ≤ 197)

/-- A request write the Command Port cannot parse: it does not begin with the read code, and R170 finds no request. -/
def isBadRequest (frame : List Byte) : Bool := frame.head? != some 0#8 && (requestOfFrame frame).isNone

/-- The kind of the good feed frame in these bytes, if there is one. -/
def goodFrameKind (bytes : List Byte) : Option FrameKind := (readFeedFrame bytes).map FeedFrame.kind

/-- The command is one the outside world can send as this row. -/
def Instr.wf (c : Instr) : Bool :=
  match c with
  | .badRequest frame => isBadRequest frame
  | .routeProgressApproach items => itemsFit items && decide (routeRow items = .approach)
  | .routeProgressArrive items => itemsFit items && decide (routeRow items = .arrive)
  | .routeProgressDepart items => itemsFit items && decide (routeRow items = .depart)
  | .dataFrame bytes => goodFrameKind bytes != some .endOfItem
  | .endFrame bytes => goodFrameKind bytes != some .data
  | c =>
    match requestParts c with
    | some (_, items) => itemsFit items
    | none => true

end Sys2Proof
end

