-- ==== Sys2Proof/Machine/State.lean ====
section
/-! DEFINITION. The state of the BD40, as plain data, block by block (spec/00, Block overview), the machine after reset,
and the reasons a step can stop. -/

namespace Sys2Proof.Machine

open Sys2Proof

/-! ### The berth record (01 R2) -/

inductive BerthState where
  | awake
  | night
  | waking
  deriving DecidableEq, Repr

inductive LampOverride where
  | auto
  | off
  | on
  | blink
  deriving DecidableEq, Repr

inductive WakeStatus where
  | none
  | armed
  | ringing1
  | ringing2
  | answered
  | unanswered
  | cancelled
  deriving DecidableEq, Repr

/-- The locked set, drawn from PROGRAM, LANGUAGE, VOLUME (R2, R13). -/
structure Locks where
  program : Bool
  language : Bool
  volume : Bool
  deriving DecidableEq, Repr

/-- The thirteen fields of an open record: its image (R2). -/
structure Image where
  ref : Nat
  generation : BitVec 8
  state : BerthState
  idle : Bool
  program : Option Program
  language : Fin 16
  volume : Nat
  ceiling : Option Nat
  locked : Locks
  lamp : LampOverride
  stop : Option Nat
  lead : Option Nat
  wake : WakeStatus
  deriving DecidableEq, Repr

/-- The unit of the inactivity reload (05 R86). -/
inductive TimeUnit where
  | seconds
  | minutes
  deriving DecidableEq, Repr

/-- What a RUNNING inactivity timer was loaded with (05 R91). -/
structure Reload where
  amount : Nat
  unit : TimeUnit
  deriving DecidableEq, Repr

/-- The button state; ARMED carries the length its window was loaded with, in ms (07 R115). -/
inductive Button where
  | idle
  | armed (windowMs : Nat)
  deriving DecidableEq, Repr

/-- A running ramp: the gain and the times its two timers were last loaded with (06 R103). -/
structure Ramp where
  gain : Nat
  stepMs : Nat
  answerS : Nat
  deriving DecidableEq, Repr

/-- An OPEN slot: the image, and the per-berth state beside it (01 R3). A timer of `none` is STOPPED. -/
structure Berth where
  image : Image
  timer : Option Reload
  button : Button
  ramp : Option Ramp
  deriving DecidableEq, Repr

/-! ### Presentations (02 R28) -/

inductive Audio where
  | silent
  | program (channel : Program) (track : Nat)
  | announce (channel : Channel)
  | wake
  deriving DecidableEq, Repr

inductive Screen where
  | on
  | dim
  | off
  deriving DecidableEq, Repr

inductive Lamp where
  | off
  | on
  | blink
  deriving DecidableEq, Repr

structure Presentation where
  video : Option Program
  audio : Audio
  gain : Nat
  screen : Screen
  lamp : Lamp
  deriving DecidableEq, Repr

/-- A presentation with the version that travels with it, 1..255 (02 R42, R43). -/
structure Versioned where
  version : Nat
  pres : Presentation
  deriving DecidableEq, Repr

/-! ### The Announcement Roster (03 R48, R49) -/

inductive AnnClass where
  | safety
  | driver
  | stop
  | service
  deriving DecidableEq, Repr

inductive Source where
  | mic
  | n0
  | n1
  | chime
  | alertTone
  deriving DecidableEq, Repr

/-- ZONES carries the zones as membership marks; BERTHS the ports in list order (R49). -/
inductive Target where
  | all
  | zones (marks : BitVec 8)
  | berths (ports : List Port)
  | stop (s : Nat)
  deriving DecidableEq, Repr

inductive AnnState where
  | queued
  | leadIn
  | playing
  | gap
  | held
  | done
  deriving DecidableEq, Repr

inductive AnnOutcome where
  | complete
  | partialReach
  | ended
  | cancelled
  | noAudience
  deriving DecidableEq, Repr

/-- An announcement record (R49). `leadIn` is in 0.5 s units, `duration` and `gap` in s. `granted` says that the record
has been granted since its admission (04 R70). -/
structure Ann where
  tag : Nat
  cls : AnnClass
  source : Source
  target : Target
  stop : Option Nat
  language : Option (Fin 16)
  leadIn : Nat
  chime : Bool
  duration : Nat
  budget : Nat
  gap : Nat
  number : Count32
  state : AnnState
  channel : Option Channel
  owed : PortSet
  audience : PortSet
  joined : PortSet
  admitted : Nat
  reached : Nat
  withheld : Nat
  withdrawn : Nat
  left : Nat
  outcome : Option AnnOutcome
  granted : Bool
  deriving DecidableEq, Repr

/-- The Roster: 16 slots (none is FREE), the occupied slots in order of admission, oldest first, and the admission
counter (R48, R50). -/
structure Roster where
  recs : Vector (Option Ann) 16
  order : List Handle
  counter : Count32
  deriving DecidableEq, Repr

/-! ### Night policy (05 R86) -/

inductive QuietMode where
  | day
  | quiet
  deriving DecidableEq, Repr

structure Policy where
  dayCeiling : Nat
  quietCeiling : Nat
  speakerCeiling : Nat
  safetyGain : Nat
  alertGain : Nat
  reload : Nat
  unit : TimeUnit
  driverNight : Bool
  deriving DecidableEq, Repr

/-! ### Wake profiles (06 R100) -/

structure Profile where
  startGain : Nat
  stage1Gain : Nat
  stage2Gain : Nat
  stepMs : Nat
  stepSize : Nat
  answerS : Nat
  deriving DecidableEq, Repr

structure WakeUnit where
  active : Profile
  pending : Profile
  waiting : Bool
  deriving DecidableEq, Repr

/-! ### The Call List (07 R119) -/

inductive CallState where
  | pending
  | attended
  deriving DecidableEq, Repr

/-- An entry; its reasons are the two marks, not both clear. -/
structure Call where
  port : Port
  passenger : Bool
  wake : Bool
  state : CallState
  raised : Count32
  deriving DecidableEq, Repr

/-! ### The Alert Unit (08 R125, R126) -/

inductive AlertState where
  | clear
  | active
  | released
  deriving DecidableEq, Repr

inductive EdgeSelection where
  | none
  | falling
  | rising
  | both
  deriving DecidableEq, Repr

structure AlertConfig where
  edge : EdgeSelection
  source : Source
  budget : Nat
  gap : Nat
  duration : Nat
  deriving DecidableEq, Repr

/-- `level` is the last filtered level of ALERT_IN, which is the level now standing on the input (R127). -/
structure AlertUnit where
  state : AlertState
  config : AlertConfig
  level : Level
  deriving DecidableEq, Repr

/-! ### Berth ports (09 R138, R139) -/

inductive PortState where
  | empty
  | present
  | powering
  | linking
  | active
  | fault
  deriving DecidableEq, Repr

inductive FaultCause where
  | power
  | link
  | unit
  deriving DecidableEq, Repr

inductive Switch where
  | opened
  | closed
  deriving DecidableEq, Repr

inductive PowerRequest where
  | on
  | off
  deriving DecidableEq, Repr

inductive PowerCommand where
  | powerOn
  | powerOff
  deriving DecidableEq, Repr

inductive CommandOutcome where
  | done
  | failed
  | aborted
  deriving DecidableEq, Repr

/-- The one timer a port may have running, with the time it was loaded with, in ms (R143, R144). -/
inductive PortTimer where
  | powerGood (ms : Nat)
  | discharge (ms : Nat)
  | link (ms : Nat)
  deriving DecidableEq, Repr

/-- The verdict given to a passenger request (01 R20, 13 R183). -/
inductive Verdict where
  | ok
  | clamped
  | vacant
  | invalid
  | locked
  | unavailable
  deriving DecidableEq, Repr

/-- The verdicts held for a port with the request number of the Response they answer (01 R26). -/
structure HeldVerdicts where
  number : BitVec 4
  verdicts : List Verdict
  deriving DecidableEq, Repr

/-- A port record (09 R139), with the held verdicts (01 R26) and the running timer. `headphones` true is PRESENT. The
flags are the ten berth kinds in the order of 12 R176. -/
structure PortRec where
  state : PortState
  cause : Option FaultCause
  switch : Switch
  request : PowerRequest
  command : Option PowerCommand
  outcome : Option CommandOutcome
  zone : Fin 8
  auto : Bool
  crew : Bool
  identity : Option Identity
  headphones : Bool
  misses : Nat
  baseline : Option (BitVec 4)
  lastTaken : Option (BitVec 4)
  desired : Option Presentation
  lastSent : Option Versioned
  acked : Option Versioned
  flags : BitVec 10
  verdicts : Option HeldVerdicts
  timer : Option PortTimer
  deriving DecidableEq, Repr

/-- The power-good timeout (ms) and the link timeout (s) in force (R143, R144). -/
structure PortTiming where
  powerGoodMs : Nat
  linkS : Nat
  deriving DecidableEq, Repr

/-! ### Deck Pollers (10 R150) -/

inductive PollMode where
  | stopped
  | singleSweep
  | round
  | priority
  deriving DecidableEq, Repr

inductive NextList where
  | priority
  | ordinary
  deriving DecidableEq, Repr

/-- A turn in flight: its port, kind and response timer as loaded (ms), and whether its result is discarded (R161). -/
structure Turn where
  port : Port
  kind : TurnKind
  timerMs : Nat
  discarded : Bool
  deriving DecidableEq, Repr

/-- The Poll sent at a turn's start (R158): what its bytes carry (13 R183). -/
inductive Poll where
  | identify (port : Port)
  | normal (port : Port) (directive : Option Versioned) (number : Option (BitVec 4)) (verdicts : List Verdict)
  deriving DecidableEq, Repr

/-- One Deck Poller. The pointers count from the deck's first port; `sweep` = 20 is past the last port. `poll` is the
last Poll it sent, the poller's output. -/
structure Poller where
  mode : PollMode
  pending : Option PollMode
  round : Fin 20
  priority : Fin 20
  ordinary : Fin 20
  next : NextList
  sweep : Nat
  turn : Option Turn
  poll : Option Poll
  deriving DecidableEq, Repr

/-! ### Feeds (11 R163) -/

inductive FeedState where
  | absent
  | waiting
  | active
  | stalled
  deriving DecidableEq, Repr

inductive MediaKind where
  | videoAudio
  | audioOnly
  deriving DecidableEq, Repr

/-- A descriptor; its track count is the number of its languages. -/
structure Descriptor where
  kind : MediaKind
  languages : List (Fin 16)
  deriving DecidableEq, Repr

/-- A feed record; `timer` is a running stall timer as loaded, in ms. -/
structure Feed where
  state : FeedState
  desc : Option Descriptor
  timer : Option Nat
  deriving DecidableEq, Repr

/-- The payload of the last feed frame taken and the lane channel it went out on, if any (11 R165, R168). -/
structure MediaOut where
  feed : FeedIx
  channel : Option Nat
  payload : List Byte
  deriving DecidableEq, Repr

/-! ### Events and digest (12 R176 to R179) -/

/-- The coach flags and the enables, in the order of R176, and the ATTN line. The berth flags are in the port records. -/
structure Events where
  coach : BitVec 8
  berthEnables : BitVec 10
  coachEnables : BitVec 8
  zoneEnables : BitVec 8
  attn : Bool
  deriving DecidableEq, Repr

inductive Polynomial where
  | digestA
  | digestB
  deriving DecidableEq, Repr

inductive BitOrder where
  | msbFirst
  | lsbFirst
  deriving DecidableEq, Repr

/-- A walk in progress runs under the settings in force when it started (R178). -/
structure Walk where
  poly : Polynomial
  order : BitOrder
  deriving DecidableEq, Repr

structure Digest where
  settled : Crc
  poly : Polynomial
  order : BitOrder
  walk : Option Walk
  deriving DecidableEq, Repr

/-! ### Responses (12 R171, R172) -/

inductive Status where
  | ok
  | badRequest
  | badParam
  | notOpen
  | occupied
  | duplicate
  | stale
  | waking
  | rosterFull
  | badTarget
  | notFound
  | wrongState
  | portBusy
  | alertActive
  | wrongMode
  | already
  deriving DecidableEq, Repr

/-- The held response: the code it answers, the status, and the values of its data items in order (13 R181). -/
structure Reply where
  code : Byte
  status : Status
  data : List (List Byte)
  deriving DecidableEq, Repr

/-- The levels on the sense input lines (09 R140, R141). -/
structure Senses where
  presence : Vector Bool 40
  fault : Vector Bool 40
  deriving DecidableEq, Repr

/-! ### The machine -/

/-- The state of the BD40. `free` counts the free values used (log 1); `pending` is the queue of commands. -/
structure State where
  pending : List Instr
  slots : Vector (Option Berth) 40
  roster : Roster
  quiet : QuietMode
  policy : Policy
  wake : WakeUnit
  windowMs : Nat
  calls : List Call
  clock : Count32
  alert : AlertUnit
  ports : Vector PortRec 40
  timing : PortTiming
  senses : Senses
  lower : Poller
  upper : Poller
  responseMs : Nat
  feeds : Vector Feed 14
  stallMs : Nat
  media : Option MediaOut
  events : Events
  digest : Digest
  reply : Option Reply
  miso : List Byte
  free : Nat
  deriving DecidableEq, Repr

/-- Why the machine stops with a fault. The BD40 never does: what the spec calls FAULT is a port state (09 R138). So
there is no constructor and no command raises one (safe: nothing is claimed of a stop). -/
inductive Fault where
  deriving DecidableEq, Repr

/-- Why a term of Instr has no meaning. -/
inductive Refusal where
  /-- Raised by exec's arm of a command not yet modelled; safe, since nothing follows from it. -/
  | notModelled (mnemonic : String)
  /-- Raised by BAD_REQUEST when its bytes parse as a request or begin a response read, which `Instr.wf` excludes; safe,
  since the same bytes have their effect as their own row. -/
  | otherCommand
  deriving DecidableEq, Repr

/-! ### Reset (12 R174, and the reset column of each block) -/

def Policy.atReset : Policy :=
  { dayCeiling := 28, quietCeiling := 16, speakerCeiling := 6, safetyGain := 24, alertGain := 28, reload := 20
    unit := .minutes, driverNight := false }

def Profile.atReset : Profile :=
  { startGain := 4, stage1Gain := 16, stage2Gain := 26, stepMs := 1000, stepSize := 1, answerS := 90 }

def AlertConfig.atReset : AlertConfig :=
  { edge := .falling, source := .alertTone, budget := 3, gap := 10, duration := 20 }

/-- A port record after reset (09 R139): zone = port / 5. -/
def PortRec.atReset (p : Port) : PortRec :=
  { state := .empty, cause := none, switch := .opened, request := .off, command := none, outcome := none
    zone := ⟨p.val / 5, Nat.div_lt_of_lt_mul p.isLt⟩, auto := true, crew := false, identity := none
    headphones := false, misses := 0, baseline := none, lastTaken := none, desired := none, lastSent := none
    acked := none, flags := 0#10, verdicts := none, timer := none }

def Poller.atReset : Poller :=
  { mode := .round, pending := none, round := 0, priority := 0, ordinary := 0, next := .priority, sweep := 0
    turn := none, poll := none }

def Feed.atReset : Feed := { state := .absent, desc := none, timer := none }

def Roster.atReset : Roster := { recs := Vector.replicate 16 none, order := [], counter := 0#32 }

/-- Every flag clear, all 26 enables on, ATTN low (12 R176, R177). -/
def Events.atReset : Events :=
  { coach := 0#8, berthEnables := BitVec.allOnes 10, coachEnables := BitVec.allOnes 8, zoneEnables := BitVec.allOnes 8
    attn := false }

/-- 0xFFFF, DIGEST-A, MSB-first, and the first walk in progress (12 R178). -/
def Digest.atReset : Digest :=
  { settled := 0xFFFF#16, poly := .digestA, order := .msbFirst, walk := some ⟨.digestA, .msbFirst⟩ }

/-- Every block in its power-on reset state, with these levels on the input lines, before the presence senses are read
(R174, 09 R149). -/
def State.blank (pins : Pins) : State :=
  { pending := []
    slots := Vector.replicate 40 none
    roster := Roster.atReset
    quiet := .day
    policy := Policy.atReset
    wake := { active := Profile.atReset, pending := Profile.atReset, waiting := false }
    windowMs := 500
    calls := []
    clock := 0#32
    alert := { state := .clear, config := AlertConfig.atReset, level := pins.alertIn }
    ports := Vector.ofFn PortRec.atReset
    timing := { powerGoodMs := 100, linkS := 2 }
    senses := { presence := pins.presence, fault := pins.fault }
    lower := Poller.atReset
    upper := Poller.atReset
    responseMs := 2
    feeds := Vector.replicate 14 Feed.atReset
    stallMs := 500
    media := none
    events := Events.atReset
    digest := Digest.atReset
    reply := none
    miso := []
    free := 0 }

/-- The levels of State.reset (DESIGN CHOICE, log 2): nothing plugged in, no fault sensed, ALERT_IN high. -/
def Pins.atReset : Pins :=
  { presence := Vector.replicate 40 false, fault := Vector.replicate 40 false, alertIn := .high }

/-- The machine right after a power-on reset with nothing plugged in. -/
def State.reset : State := State.blank Pins.atReset

end Sys2Proof.Machine
end

