-- ==== Sys2Proof/Machine/Flags.lean ====
section
/-! DEFINITION. The Event Aggregator's flags, enables and the ATTN line (spec/12 R176, R177). -/

namespace Sys2Proof.Machine

open Sys2Proof

/-- The ten berth kinds, in the order of R176: a kind's number is its bit. -/
inductive BerthKind where
  | presence
  | powerFault
  | linkFault
  | portCommandDone
  | callRaised
  | callCancelled
  | wakeAnswered
  | wakeUnanswered
  | wakeLate
  | overstay
  deriving DecidableEq, Repr

/-- The eight coach kinds, in the order of R176. -/
inductive CoachKind where
  | alert
  | announceDone
  | announceRepeat
  | feedStalled
  | feedResumed
  | sweepDoneL
  | sweepDoneU
  | digestSettled
  deriving DecidableEq, Repr

/-- The position of a berth kind. -/
def BerthKind.bit : BerthKind → Nat
  | .presence => 0
  | .powerFault => 1
  | .linkFault => 2
  | .portCommandDone => 3
  | .callRaised => 4
  | .callCancelled => 5
  | .wakeAnswered => 6
  | .wakeUnanswered => 7
  | .wakeLate => 8
  | .overstay => 9

/-- The position of a coach kind. -/
def CoachKind.bit : CoachKind → Nat
  | .alert => 0
  | .announceDone => 1
  | .announceRepeat => 2
  | .feedStalled => 3
  | .feedResumed => 4
  | .sweepDoneL => 5
  | .sweepDoneU => 6
  | .digestSettled => 7

/-- The membership mark of one berth kind. -/
def BerthKind.mark (k : BerthKind) : BitVec 10 := 1#10 <<< k.bit

/-- The membership mark of one coach kind. -/
def CoachKind.mark (k : CoachKind) : BitVec 8 := 1#8 <<< k.bit

/-- A sticky berth flag is set; one already set stays set (R176). -/
def PortRec.setFlag (k : BerthKind) (r : PortRec) : PortRec := { r with flags := r.flags ||| k.mark }

/-- The berth flag of a kind. -/
def PortRec.flag (k : BerthKind) (r : PortRec) : Bool := r.flags.getLsbD k.bit

/-- A sticky coach flag is set. -/
def Events.setCoach (k : CoachKind) (e : Events) : Events := { e with coach := e.coach ||| k.mark }

/-- The coach flag of a kind. -/
def Events.flag (k : CoachKind) (e : Events) : Bool := e.coach.getLsbD k.bit

/-- A port is pending while it has a set flag of an enabled kind (R177). -/
def State.portPending (s : State) (p : Port) : Bool := s.ports[p].flags &&& s.events.berthEnables != 0#10

/-- A zone is pending while any of its ports is (R177). -/
def State.zonePending (s : State) (z : Fin 8) : Bool :=
  allPorts.any fun p => s.ports[p].zone == z && s.portPending p

/-- Some set coach flag has its kind enable on. -/
def State.coachPending (s : State) : Bool := s.events.coach &&& s.events.coachEnables != 0#8

/-- What ATTN must be: some pending zone has its zone enable on, or some enabled coach flag is set (R177). -/
def State.attnLevel (s : State) : Bool :=
  ((List.finRange 8).any fun z => s.zonePending z && s.events.zoneEnables.getLsbD z.val) || s.coachPending

/-- The Aggregator judges ATTN anew (R177). -/
def State.judgeAttn (s : State) : State := { s with events := { s.events with attn := s.attnLevel } }

/-- RDY is asserted while a response is held and low while none is (R171). -/
def State.rdy (s : State) : Bool := s.reply.isSome

/-- One port's record is changed. -/
def State.mapPort (p : Port) (f : PortRec → PortRec) (s : State) : State :=
  { s with ports := s.ports.set p.val (f s.ports[p]) }

/-- A berth flag of a port is set. -/
def State.flagBerth (k : BerthKind) (p : Port) (s : State) : State := s.mapPort p (PortRec.setFlag k)

/-- A coach flag is set. -/
def State.flagCoach (k : CoachKind) (s : State) : State := { s with events := s.events.setCoach k }

/-- The berth kinds TRIP_RESET clears (12 R175). -/
def tripMarks : BitVec 10 :=
  BerthKind.callRaised.mark ||| BerthKind.callCancelled.mark ||| BerthKind.wakeAnswered.mark |||
    BerthKind.wakeUnanswered.mark ||| BerthKind.wakeLate.mark ||| BerthKind.overstay.mark

end Sys2Proof.Machine
end

