-- ==== Sys2Proof/Machine/Operands.lean ====
section
/-! DEFINITION. Every operand form: the parameters of each head-unit request read from its items, and the values of
response data written as bytes (spec/13 R181, R182, R183). A parser answers none exactly where the owning block refuses
the request BAD_PARAM on its parameters alone. -/

namespace Sys2Proof.Machine

open Sys2Proof

/-! ### Reading one field (13 R181) -/

/-- The value of field `k`, if the request names it. -/
def fieldValue (k : Nat) (items : List Item) : Option (List Byte) :=
  (items.find? fun i => i.id.toNat == k).map Item.value

/-- Every field identifier is one of 1..n and none is repeated (R181; else BAD_PARAM). -/
def fieldsKnown (n : Nat) (items : List Item) : Bool :=
  items.all (fun i => decide (1 ≤ i.id.toNat ∧ i.id.toNat ≤ n)) && decide ((items.map Item.id).Nodup)

/-- A field that must be given. -/
def required {α : Type} (k : Nat) (f : List Byte → Option α) (items : List Item) : Option α :=
  (fieldValue k items).bind f

/-- An optional field: missing, or given as absent by value length 0, or given with a value in its range. -/
def optional {α : Type} (k : Nat) (f : List Byte → Option α) (items : List Item) : Option (Option α) :=
  match fieldValue k items with
  | none => some none
  | some [] => some none
  | some v => (f v).map some

/-- A field with a value when it is not supplied, and which may not be given as absent. -/
def supplied {α : Type} (k : Nat) (f : List Byte → Option α) (initial : α) (items : List Item) : Option α :=
  match fieldValue k items with
  | none => some initial
  | some v => f v

/-- A field of a change set: not named, or named with a value in its range. -/
def change {α : Type} (k : Nat) (f : List Byte → Option α) (items : List Item) : Option (Option α) :=
  match fieldValue k items with
  | none => some none
  | some v => (f v).map some

/-- A value that may also be "absent", which removes the field (01 R11). -/
def orAbsent {α : Type} (f : List Byte → Option α) (v : List Byte) : Option (Option α) :=
  if v = [] then some none else (f v).map some

/-- A number in lo..hi, in `width` bytes. -/
def number (width lo hi : Nat) (v : List Byte) : Option Nat :=
  if v.length = width ∧ lo ≤ natOfBytes v ∧ natOfBytes v ≤ hi then some (natOfBytes v) else none

/-- A number in lo..hi in steps from lo. -/
def stepped (width lo hi step : Nat) (v : List Byte) : Option Nat :=
  (number width lo hi v).bind fun n => if (n - lo) % step = 0 then some n else none

/-- A number out of a list of values. -/
def listed (width : Nat) (ns : List Nat) (v : List Byte) : Option Nat :=
  if v.length = width ∧ natOfBytes v ∈ ns then some (natOfBytes v) else none

/-- A one-byte index below n. -/
def index (n : Nat) (v : List Byte) : Option (Fin n) :=
  if h : v.length = 1 ∧ natOfBytes v < n then some ⟨natOfBytes v, h.2⟩ else none

/-- A value named in capitals: its position in the list of values. -/
def named {α : Type} (values : List α) (v : List Byte) : Option α :=
  if v.length = 1 then values[natOfBytes v]? else none

/-- A setting of on or off: off 0, on 1. -/
def onOff (v : List Byte) : Option Bool := named [false, true] v

/-- Membership marks over n members, in exactly the fewest whole bytes that hold n bits (DEDUCED, log 5). -/
def marks (n : Nat) (v : List Byte) : Option (BitVec n) :=
  if v.length = (n + 7) / 8 ∧ natOfBytes v < 2 ^ n then some (BitVec.ofNat n (natOfBytes v)) else none

/-- A port 0..39. -/
def portField (v : List Byte) : Option Port := index 40 v

/-- The locked set, as marks PROGRAM, LANGUAGE, VOLUME. -/
def locksField (v : List Byte) : Option Locks :=
  (marks 3 v).map fun m => { program := m.getLsbD 0, language := m.getLsbD 1, volume := m.getLsbD 2 }

def lampField (v : List Byte) : Option LampOverride := named [.auto, .off, .on, .blink] v

def sourceField (v : List Byte) : Option Source := named [.mic, .n0, .n1, .chime, .alertTone] v

/-! ### Requests whose parameters are one port, one handle, or none -/

/-- No parameters. -/
def noParams (items : List Item) : Option Unit := if fieldsKnown 0 items then some () else none

/-- One port. -/
def onePort (items : List Item) : Option Port := if fieldsKnown 1 items then required 1 portField items else none

/-- One handle 0..15. -/
def oneHandle (items : List Item) : Option Handle := if fieldsKnown 1 items then required 1 (index 16) items else none

/-! ### Berth Table requests (01 R8, R11, R14, R19) -/

structure OpenParams where
  port : Port
  ref : Nat
  program : Option Program
  language : Fin 16
  volume : Nat
  ceiling : Option Nat
  locked : Locks
  lamp : LampOverride
  stop : Option Nat
  lead : Option Nat
  deriving DecidableEq, Repr

/-- OPEN_BERTH: port, occupant reference and the initial fields, with the values of R2 where not supplied. -/
def openParams (items : List Item) : Option OpenParams :=
  if fieldsKnown 10 items then do
    let port ← required 1 portField items
    let ref ← required 2 (number 2 1 65535) items
    let program ← optional 3 (index 12) items
    let language ← supplied 4 (index 16) 0 items
    let volume ← supplied 5 (number 1 0 31) 12 items
    let ceiling ← optional 6 (number 1 0 31) items
    let locked ← supplied 7 locksField { program := false, language := false, volume := false } items
    let lamp ← supplied 8 lampField .auto items
    let stop ← optional 9 (number 1 1 63) items
    let lead ← optional 10 (number 1 5 90) items
    some { port, ref, program, language, volume, ceiling, locked, lamp, stop, lead }
  else none

/-- A change set (R11): each amendable field, if named; the four that may be absent carry an Option as their value. -/
structure Changes where
  program : Option (Option Program)
  language : Option (Fin 16)
  volume : Option Nat
  ceiling : Option (Option Nat)
  locked : Option Locks
  lamp : Option LampOverride
  stop : Option (Option Nat)
  lead : Option (Option Nat)
  deriving DecidableEq, Repr

/-- The change set names no field. -/
def Changes.isEmpty (c : Changes) : Bool :=
  c.program.isNone && c.language.isNone && c.volume.isNone && c.ceiling.isNone && c.locked.isNone && c.lamp.isNone &&
    c.stop.isNone && c.lead.isNone

/-- The change set names the alighting stop or the wake lead (R6, R15). -/
def Changes.namesWake (c : Changes) : Bool := c.stop.isSome || c.lead.isSome

structure AmendParams where
  port : Port
  expected : Option (BitVec 8)
  changes : Changes
  deriving DecidableEq, Repr

/-- A generation 0..255. -/
def generationField (v : List Byte) : Option (BitVec 8) := (number 1 0 255 v).map (BitVec.ofNat 8)

/-- AMEND_BERTH: port, optional expected generation, change set (fields 3 to 10 in the order of R2; DEDUCED, log 5). -/
def amendParams (items : List Item) : Option AmendParams :=
  if fieldsKnown 10 items then do
    let port ← required 1 portField items
    let expected ← optional 2 generationField items
    let program ← change 3 (orAbsent (index 12)) items
    let language ← change 4 (index 16) items
    let volume ← change 5 (number 1 0 31) items
    let ceiling ← change 6 (orAbsent (number 1 0 31)) items
    let locked ← change 7 locksField items
    let lamp ← change 8 lampField items
    let stop ← change 9 (orAbsent (number 1 1 63)) items
    let lead ← change 10 (orAbsent (number 1 5 90)) items
    let changes : Changes := { program, language, volume, ceiling, locked, lamp, stop, lead }
    if changes.isEmpty then none else some { port, expected, changes }
  else none

structure RetireParams where
  port : Port
  expected : Option (BitVec 8)
  deriving DecidableEq, Repr

/-- RETIRE_BERTH: port, optional expected generation. -/
def retireParams (items : List Item) : Option RetireParams :=
  if fieldsKnown 2 items then do
    let port ← required 1 portField items
    let expected ← optional 2 generationField items
    some { port, expected }
  else none

/-- FIND_OCCUPANT: an occupant reference; 0 is refused. -/
def findParams (items : List Item) : Option Nat :=
  if fieldsKnown 1 items then required 1 (number 2 1 65535) items else none

/-! ### Announcement requests (03 R51) -/

/-- A target as carried: its zone marks and port list are judged by check 2 of R51, its form and stop by check 1. -/
inductive RawTarget where
  | all
  | zones (v : List Byte)
  | berths (v : List Byte)
  | stop (s : Nat)
  deriving DecidableEq, Repr

/-- One byte for the form, then the zone marks, the port list or the stop (13 R181). -/
def targetField (v : List Byte) : Option RawTarget :=
  match v with
  | [] => none
  | form :: rest =>
    match form.toNat with
    | 0 => if rest = [] then some .all else none
    | 1 => some (.zones rest)
    | 2 => some (.berths rest)
    | 3 => (number 1 1 63 rest).map .stop
    | _ => none

/-- The ports a list of bytes names, if all are in 0..39. -/
def portList : List Byte → Option (List Port)
  | [] => some []
  | b :: rest =>
    match portField [b], portList rest with
    | some p, some ps => some (p :: ps)
    | _, _ => none

/-- Check 2 of R51; none is BAD_TARGET. -/
def RawTarget.judge : RawTarget → Option Target
  | .all => some .all
  | .stop s => some (.stop s)
  | .zones v => if v.length = 1 ∧ natOfBytes v ≠ 0 then some (.zones (BitVec.ofNat 8 (natOfBytes v))) else none
  | .berths v =>
    match portList v with
    | some ps => if 1 ≤ ps.length ∧ ps.length ≤ 8 ∧ ps.Nodup then some (.berths ps) else none
    | none => none

structure AnnounceParams where
  tag : Nat
  cls : AnnClass
  source : Source
  target : RawTarget
  stop : Option Nat
  language : Option (Fin 16)
  leadIn : Nat
  chime : Bool
  duration : Nat
  budget : Nat
  gap : Nat
  deriving DecidableEq, Repr

/-- Two bytes: the length in 0.5 s units, 1..8, and the chime, off 0 or on 1 (13 R181). -/
def leadInField (v : List Byte) : Option (Nat × Bool) :=
  match v with
  | [a, b] =>
    match number 1 1 8 [a], onOff [b] with
    | some n, some c => some (n, c)
    | _, _ => none
  | _ => none

/-- The stop the request gives: its own field, else the stop of a STOP target (DEDUCED, log 6). -/
def givenStop (field : Option Nat) (target : RawTarget) : Option Nat :=
  match field, target with
  | some s, _ => some s
  | none, .stop s => some s
  | none, _ => none

/-- The class or the target requires a stop (R51). -/
def needsStop (cls : AnnClass) (target : RawTarget) : Bool :=
  match cls, target with
  | .stop, _ => true
  | _, .stop _ => true
  | _, _ => false

/-- ANNOUNCE, check 1 of R51. -/
def announceParams (items : List Item) : Option AnnounceParams :=
  if fieldsKnown 10 items then do
    let tag ← required 1 (number 2 0 65535) items
    let cls ← required 2 (named [AnnClass.safety, .driver, .stop, .service]) items
    let source ← required 3 sourceField items
    let target ← required 4 targetField items
    let field ← optional 5 (number 1 1 63) items
    let language ← optional 6 (index 16) items
    let lead ← required 7 leadInField items
    let duration ← required 8 (number 1 1 120) items
    let budget ← required 9 (number 1 0 3) items
    let gap ← required 10 (stepped 1 5 60 5) items
    let stop := givenStop field target
    if needsStop cls target = stop.isSome ∧ ¬(source = .mic ∧ 0 < budget) then
      some { tag, cls, source, target, stop, language, leadIn := lead.1, chime := lead.2, duration, budget, gap }
    else none
  else none

/-! ### Night policy requests (05 R87, R94) -/

structure PolicyChange where
  dayCeiling : Option Nat
  quietCeiling : Option Nat
  speakerCeiling : Option Nat
  safetyGain : Option Nat
  alertGain : Option Nat
  reload : Option Nat
  unit : Option TimeUnit
  driverNight : Option Bool
  deriving DecidableEq, Repr

/-- SET_POLICY: one or more of the eight settings, in the order of R86. -/
def policyParams (items : List Item) : Option PolicyChange :=
  if fieldsKnown 8 items ∧ items ≠ [] then do
    let dayCeiling ← change 1 (number 1 0 31) items
    let quietCeiling ← change 2 (number 1 0 31) items
    let speakerCeiling ← change 3 (number 1 0 31) items
    let safetyGain ← change 4 (number 1 0 31) items
    let alertGain ← change 5 (number 1 0 31) items
    let reload ← change 6 (number 1 1 255) items
    let unit ← change 7 (named [TimeUnit.seconds, .minutes]) items
    let driverNight ← change 8 onOff items
    some { dayCeiling, quietCeiling, speakerCeiling, safetyGain, alertGain, reload, unit, driverNight }
  else none

/-- SET_QUIET: the quiet mode. -/
def quietParams (items : List Item) : Option QuietMode :=
  if fieldsKnown 1 items then required 1 (named [QuietMode.day, .quiet]) items else none

/-! ### Wake requests (06 R101, R104) -/

structure RouteParams where
  kind : RouteKind
  stop : Nat
  minutes : Nat
  deriving DecidableEq, Repr

/-- ROUTE_PROGRESS: kind, stop and, with APPROACH alone, minutes. With ARRIVE and DEPART a minutes item of value length 0 is
refused too (DEDUCED, log 16). -/
def routeParams (items : List Item) : Option RouteParams :=
  if fieldsKnown 3 items then do
    let kind ← required 1 (named [RouteKind.approach, .arrive, .depart]) items
    let stop ← required 2 (number 1 1 63) items
    match kind, fieldValue 3 items with
    | .approach, some v => (number 1 0 255 v).map fun minutes => { kind, stop, minutes }
    | .approach, none => none
    | _, none => some { kind, stop, minutes := 0 }
    | _, some _ => none
  else none

structure ProfileChange where
  startGain : Option Nat
  stage1Gain : Option Nat
  stage2Gain : Option Nat
  stepMs : Option Nat
  stepSize : Option Nat
  answerS : Option Nat
  deriving DecidableEq, Repr

/-- SET_WAKE_PROFILE: one or more of the six fields of R100. -/
def profileParams (items : List Item) : Option ProfileChange :=
  if fieldsKnown 6 items ∧ items ≠ [] then do
    let startGain ← change 1 (number 1 0 31) items
    let stage1Gain ← change 2 (number 1 0 31) items
    let stage2Gain ← change 3 (number 1 0 31) items
    let stepMs ← change 4 (stepped 2 250 2000 250) items
    let stepSize ← change 5 (number 1 1 4) items
    let answerS ← change 6 (stepped 2 30 300 10) items
    some { startGain, stage1Gain, stage2Gain, stepMs, stepSize, answerS }
  else none

/-! ### Button and call requests (07 R115, R122) -/

/-- SET_BUTTON_WINDOW: a length in ms. -/
def windowParams (items : List Item) : Option Nat :=
  if fieldsKnown 1 items then required 1 (stepped 2 200 1000 100) items else none

/-- CALL_LIST: an optional start position 0..39, 0 when absent. -/
def callListParams (items : List Item) : Option Nat :=
  if fieldsKnown 1 items then (optional 1 (number 1 0 39) items).map fun o => o.getD 0 else none

/-! ### Alert requests (08 R126) -/

structure AlertChange where
  edge : Option EdgeSelection
  source : Option Source
  budget : Option Nat
  gap : Option Nat
  duration : Option Nat
  deriving DecidableEq, Repr

/-- The alert source takes the codes of R49, but TONE(CHIME) is not one of its values. -/
def alertSourceField (v : List Byte) : Option Source :=
  match sourceField v with
  | some .chime => none
  | o => o

/-- SET_ALERT_CONFIG: one or more of the five fields. -/
def alertParams (items : List Item) : Option AlertChange :=
  if fieldsKnown 5 items ∧ items ≠ [] then do
    let edge ← change 1 (named [EdgeSelection.none, .falling, .rising, .both]) items
    let source ← change 2 alertSourceField items
    let budget ← change 3 (number 1 0 3) items
    let gap ← change 4 (stepped 1 5 60 5) items
    let duration ← change 5 (number 1 1 120) items
    some { edge, source, budget, gap, duration }
  else none

/-! ### Port requests (09 R142, R143, R147) -/

structure PowerParams where
  port : Port
  value : PowerRequest
  deriving DecidableEq, Repr

/-- PORT_POWER: a port and ON or OFF, named values by position (DEDUCED, log 5). -/
def powerParams (items : List Item) : Option PowerParams :=
  if fieldsKnown 2 items then do
    let port ← required 1 portField items
    let value ← required 2 (named [PowerRequest.on, .off]) items
    some { port, value }
  else none

structure ConfigParams where
  port : Port
  zone : Option (Fin 8)
  auto : Option Bool
  crew : Option Bool
  deriving DecidableEq, Repr

/-- PORT_CONFIG: a port and one or more of zone, auto-power and crew mark. -/
def configParams (items : List Item) : Option ConfigParams :=
  if fieldsKnown 4 items then do
    let port ← required 1 portField items
    let zone ← change 2 (index 8) items
    let auto ← change 3 onOff items
    let crew ← change 4 onOff items
    if zone.isNone ∧ auto.isNone ∧ crew.isNone then none else some { port, zone, auto, crew }
  else none

structure TimingChange where
  powerGoodMs : Option Nat
  linkS : Option Nat
  deriving DecidableEq, Repr

/-- SET_PORT_TIMING: one or both timeouts. -/
def timingParams (items : List Item) : Option TimingChange :=
  if fieldsKnown 2 items ∧ items ≠ [] then do
    let powerGoodMs ← change 1 (listed 2 [50, 100, 200, 400]) items
    let linkS ← change 2 (listed 1 [1, 2, 4, 8]) items
    some { powerGoodMs, linkS }
  else none

/-! ### Polling requests (10 R156, R157) -/

/-- The decks a SET_POLL_MODE names: L, U or BOTH. -/
inductive DeckChoice where
  | lower
  | upper
  | both
  deriving DecidableEq, Repr

structure PollModeParams where
  decks : DeckChoice
  mode : PollMode
  deriving DecidableEq, Repr

/-- SET_POLL_MODE: decks and mode. -/
def pollModeParams (items : List Item) : Option PollModeParams :=
  if fieldsKnown 2 items then do
    let decks ← required 1 (named [DeckChoice.lower, .upper, .both]) items
    let mode ← required 2 (named [PollMode.stopped, .singleSweep, .round, .priority]) items
    some { decks, mode }
  else none

/-- SET_POLL_TIMEOUT: 1, 2, 4 or 8 ms. -/
def pollTimeoutParams (items : List Item) : Option Nat :=
  if fieldsKnown 1 items then required 1 (listed 1 [1, 2, 4, 8]) items else none

/-- READ_POLL: a deck, L or U. -/
def readPollParams (items : List Item) : Option Deck :=
  if fieldsKnown 1 items then required 1 (named [Deck.lower, .upper]) items else none

/-! ### Feed requests (11 R163, R164, R168) -/

/-- Languages, one byte each. -/
def languageList : List Byte → Option (List (Fin 16))
  | [] => some []
  | b :: rest =>
    match index 16 [b], languageList rest with
    | some l, some ls => some (l :: ls)
    | _, _ => none

/-- A descriptor: kind, track count, then one language per track (DEDUCED, log 5). -/
def descriptorField (v : List Byte) : Option Descriptor :=
  match v with
  | kind :: count :: rest =>
    match named [MediaKind.videoAudio, .audioOnly] [kind], number 1 1 4 [count], languageList rest with
    | some k, some n, some ls => if ls.length = n then some { kind := k, languages := ls } else none
    | _, _, _ => none
  | _ => none

structure FeedParams where
  feed : FeedIx
  desc : Descriptor
  deriving DecidableEq, Repr

/-- CONFIGURE_FEED: a feed index and a descriptor; N0 and N1 take AUDIO_ONLY with one track. -/
def feedParams (items : List Item) : Option FeedParams :=
  if fieldsKnown 2 items then do
    let feed ← required 1 (index 14) items
    let desc ← required 2 descriptorField items
    if 12 ≤ feed.val ∧ ¬(desc.kind = .audioOnly ∧ desc.languages.length = 1) then none else some { feed, desc }
  else none

/-- UNCONFIGURE_FEED: a feed index. -/
def oneFeed (items : List Item) : Option FeedIx := if fieldsKnown 1 items then required 1 (index 14) items else none

/-- FEED_QUERY: a feed index, or ALL, the value after index 13 (DEDUCED, log 5); none is ALL. -/
def feedQueryParams (items : List Item) : Option (Option FeedIx) :=
  if fieldsKnown 1 items then
    (required 1 (number 1 0 14) items).map fun n => if h : n < 14 then some ⟨n, h⟩ else none
  else none

/-- SET_FEED_STALL: a stall time in ms. -/
def stallParams (items : List Item) : Option Nat :=
  if fieldsKnown 1 items then required 1 (listed 2 [250, 500, 1000, 2000]) items else none

/-! ### Event and digest requests (12 R176, R177, R179) -/

/-- A settings mask: which members are named, and which of those become on. -/
structure EnableChange (n : Nat) where
  named : BitVec n
  on : BitVec n
  deriving DecidableEq, Repr

/-- The members `first`, `first + 1`, ... `first + n - 1` of the request's fields, each on or off. -/
def enableFields (first n : Nat) (items : List Item) : Option (EnableChange n) :=
  (List.range n).foldl (fun acc i =>
    match acc, change (first + i) onOff items with
    | some e, some none => some e
    | some e, some (some b) =>
      some { named := e.named ||| (1 : BitVec n) <<< i, on := if b then e.on ||| (1 : BitVec n) <<< i else e.on }
    | _, _ => none) (some { named := 0, on := 0 })

structure EnableParams where
  berth : EnableChange 10
  coach : EnableChange 8
  zone : EnableChange 8
  deriving DecidableEq, Repr

/-- SET_EVENT_ENABLES: fields 1 to 10 the berth kinds, 11 to 18 the coach kinds, 19 to 26 the zones (DEDUCED, log 5). -/
def enableParams (items : List Item) : Option EnableParams :=
  if fieldsKnown 26 items ∧ items ≠ [] then do
    let berth ← enableFields 1 10 items
    let coach ← enableFields 11 8 items
    let zone ← enableFields 19 8 items
    some { berth, coach, zone }
  else none

/-- The enables after a change. -/
def EnableChange.apply {n : Nat} (e : EnableChange n) (v : BitVec n) : BitVec n := (v &&& ~~~e.named) ||| e.on

structure AckParams where
  port : Port
  kinds : BitVec 10
  deriving DecidableEq, Repr

/-- ACK_BERTH_EVENTS: a port and a set of berth kinds, not empty. -/
def ackBerthParams (items : List Item) : Option AckParams :=
  if fieldsKnown 2 items then do
    let port ← required 1 portField items
    let kinds ← required 2 (marks 10) items
    if kinds = 0 then none else some { port, kinds }
  else none

/-- ACK_COACH_EVENTS: a set of coach kinds, not empty. -/
def ackCoachParams (items : List Item) : Option (BitVec 8) :=
  if fieldsKnown 1 items then
    (required 1 (marks 8) items).bind fun kinds => if kinds = 0 then none else some kinds
  else none

structure DigestChange where
  poly : Option Polynomial
  order : Option BitOrder
  deriving DecidableEq, Repr

/-- SET_DIGEST: a polynomial, a bit order, or both. -/
def digestParams (items : List Item) : Option DigestChange :=
  if fieldsKnown 2 items ∧ items ≠ [] then do
    let poly ← change 1 (named [Polynomial.digestA, .digestB]) items
    let order ← change 2 (named [BitOrder.msbFirst, .lsbFirst]) items
    some { poly, order }
  else none

/-! ### Codes of named values, by position (13 R181, R182, R183) -/

def BerthState.code : BerthState → Nat
  | .awake => 0
  | .night => 1
  | .waking => 2

def LampOverride.code : LampOverride → Nat
  | .auto => 0
  | .off => 1
  | .on => 2
  | .blink => 3

def WakeStatus.code : WakeStatus → Nat
  | .none => 0
  | .armed => 1
  | .ringing1 => 2
  | .ringing2 => 3
  | .answered => 4
  | .unanswered => 5
  | .cancelled => 6

def AnnClass.code : AnnClass → Nat
  | .safety => 0
  | .driver => 1
  | .stop => 2
  | .service => 3

def Source.code : Source → Nat
  | .mic => 0
  | .n0 => 1
  | .n1 => 2
  | .chime => 3
  | .alertTone => 4

def AnnState.code : AnnState → Nat
  | .queued => 0
  | .leadIn => 1
  | .playing => 2
  | .gap => 3
  | .held => 4
  | .done => 5

def AnnOutcome.code : AnnOutcome → Nat
  | .complete => 0
  | .partialReach => 1
  | .ended => 2
  | .cancelled => 3
  | .noAudience => 4

def QuietMode.code : QuietMode → Nat
  | .day => 0
  | .quiet => 1

def TimeUnit.code : TimeUnit → Nat
  | .seconds => 0
  | .minutes => 1

def AlertState.code : AlertState → Nat
  | .clear => 0
  | .active => 1
  | .released => 2

def EdgeSelection.code : EdgeSelection → Nat
  | .none => 0
  | .falling => 1
  | .rising => 2
  | .both => 3

def levelCode : Level → Nat
  | .low => 0
  | .high => 1

def CallState.code : CallState → Nat
  | .pending => 0
  | .attended => 1

def PortState.code : PortState → Nat
  | .empty => 0
  | .present => 1
  | .powering => 2
  | .linking => 3
  | .active => 4
  | .fault => 5

def FaultCause.code : FaultCause → Nat
  | .power => 0
  | .link => 1
  | .unit => 2

def Switch.code : Switch → Nat
  | .opened => 0
  | .closed => 1

def PowerRequest.code : PowerRequest → Nat
  | .on => 0
  | .off => 1

def PowerCommand.code : PowerCommand → Nat
  | .powerOn => 0
  | .powerOff => 1

def CommandOutcome.code : CommandOutcome → Nat
  | .done => 0
  | .failed => 1
  | .aborted => 2

def PollMode.code : PollMode → Nat
  | .stopped => 0
  | .singleSweep => 1
  | .round => 2
  | .priority => 3

def NextList.code : NextList → Nat
  | .priority => 0
  | .ordinary => 1

def turnKindCode : TurnKind → Nat
  | .identify => 0
  | .normal => 1

def FeedState.code : FeedState → Nat
  | .absent => 0
  | .waiting => 1
  | .active => 2
  | .stalled => 3

def MediaKind.code : MediaKind → Nat
  | .videoAudio => 0
  | .audioOnly => 1

def Polynomial.code : Polynomial → Nat
  | .digestA => 0
  | .digestB => 1

def BitOrder.code : BitOrder → Nat
  | .msbFirst => 0
  | .lsbFirst => 1

def Verdict.code : Verdict → Nat
  | .ok => 0
  | .clamped => 1
  | .vacant => 2
  | .invalid => 3
  | .locked => 4
  | .unavailable => 5

def Screen.code : Screen → Nat
  | .on => 0
  | .dim => 1
  | .off => 2

def Lamp.code : Lamp → Nat
  | .off => 0
  | .on => 1
  | .blink => 2

/-- The statuses of R172, 0 for OK through 15 for ALREADY. -/
def Status.code : Status → Nat
  | .ok => 0
  | .badRequest => 1
  | .badParam => 2
  | .notOpen => 3
  | .occupied => 4
  | .duplicate => 5
  | .stale => 6
  | .waking => 7
  | .rosterFull => 8
  | .badTarget => 9
  | .notFound => 10
  | .wrongState => 11
  | .portBusy => 12
  | .alertActive => 13
  | .wrongMode => 14
  | .already => 15

/-! ### Writing response data (13 R181, R182, R183) -/

def byteOf (n : Nat) : List Byte := bytesOfNat 1 n

def bytes2 (n : Nat) : List Byte := bytesOfNat 2 n

def bytes4 (n : Nat) : List Byte := bytesOfNat 4 n

def flagByte (b : Bool) : List Byte := byteOf (if b then 1 else 0)

/-- A value, or no byte where there is none. -/
def optBytes {α : Type} (f : α → List Byte) : Option α → List Byte
  | none => []
  | some a => f a

/-- Membership marks over n members in the fewest whole bytes that hold n bits (DEDUCED, log 5). -/
def marksBytes {n : Nat} (v : BitVec n) : List Byte := bytesOfNat ((n + 7) / 8) v.toNat

/-- The marks of a set of ports. -/
def portMarks (ps : List Port) : BitVec 40 := ps.foldl (fun v p => v ||| 1#40 <<< p.val) 0#40

/-- The 15 bytes of an open record's image (R182). -/
def Image.bytes (i : Image) : List Byte :=
  [1#8] ++ bytes2 i.ref ++ [i.generation] ++ byteOf i.state.code ++ flagByte i.idle ++
    byteOf (i.program.elim 0xFF Fin.val) ++ byteOf i.language.val ++ byteOf i.volume ++
    byteOf (i.ceiling.getD 0xFF) ++
    byteOf ((if i.locked.program then 1 else 0) + (if i.locked.language then 2 else 0) +
      (if i.locked.volume then 4 else 0)) ++
    byteOf i.lamp.code ++ byteOf (i.stop.getD 0) ++ byteOf (i.lead.getD 0) ++ byteOf i.wake.code

/-- What a lookup returns and a walk feeds for a slot: the image, or the one-byte vacant marker (R182). -/
def slotBytes : Option Berth → List Byte
  | none => [0#8]
  | some b => b.image.bytes

/-- The audio kind, channel and track of a presentation (R183). -/
def Audio.bytes : Audio → List Byte
  | .silent => byteOf 0 ++ byteOf 0 ++ byteOf 0
  | .program c t => byteOf 1 ++ byteOf c.val ++ byteOf t
  | .announce c => byteOf 2 ++ byteOf (12 + c.val) ++ byteOf 0
  | .wake => byteOf 3 ++ byteOf 16 ++ byteOf 0

/-- The seven bytes of a Present directive (R183): version 1..255, 0 where a presentation has none (DEDUCED, log 5). -/
def presBytes (version : Nat) (d : Presentation) : List Byte :=
  byteOf version ++ byteOf (d.video.elim 0xFF Fin.val) ++ d.audio.bytes ++ byteOf d.gain ++
    byteOf (d.screen.code * 16 + d.lamp.code)

def Versioned.bytes (v : Versioned) : List Byte := presBytes v.version v.pres

/-- The bytes of a Poll on the deck bus, its CRC-16 last (R183). -/
def Poll.bytes : Poll → List Byte
  | .identify p => sealFrame (byteOf 1 ++ byteOf p.val)
  | .normal p d n vs =>
    sealFrame (byteOf 2 ++ byteOf p.val ++
      (match d with
        | none => byteOf 0
        | some v => byteOf 1 ++ v.bytes) ++
      byteOf ((n.getD 0).toNat) ++ byteOf vs.length ++ vs.flatMap fun v => byteOf v.code)

/-- A target in response data (R181). -/
def Target.bytes : Target → List Byte
  | .all => byteOf 0
  | .zones m => byteOf 1 ++ marksBytes m
  | .berths ps => byteOf 2 ++ ps.flatMap fun p => byteOf p.val
  | .stop s => byteOf 3 ++ byteOf s

/-- An announcement record: its present fields in the order of R49, handle first (R66, R181; log 5). -/
def Ann.bytes (h : Handle) (a : Ann) : List Byte :=
  byteOf h.val ++ bytes2 a.tag ++ byteOf a.cls.code ++ byteOf a.source.code ++ a.target.bytes ++
    optBytes byteOf a.stop ++ optBytes (fun l => byteOf l.val) a.language ++ byteOf a.leadIn ++ flagByte a.chime ++
    byteOf a.duration ++ byteOf a.budget ++ byteOf a.gap ++ bytes4 a.number.toNat ++ byteOf a.state.code ++
    optBytes (fun c => byteOf c.val) a.channel ++ marksBytes (portMarks a.owed) ++
    marksBytes (portMarks a.audience) ++ marksBytes (portMarks a.joined) ++ byteOf a.admitted ++ byteOf a.reached ++
    byteOf a.withheld ++ byteOf a.withdrawn ++ byteOf a.left ++ optBytes (fun o => byteOf o.code) a.outcome

/-- One slot of LIST_ANNOUNCE: no byte for FREE; else state, class, tag and, if DONE, outcome (R66), in one data item a
slot (DEDUCED, log 5). -/
def Ann.summary (a : Ann) : List Byte :=
  byteOf a.state.code ++ byteOf a.cls.code ++ bytes2 a.tag ++ optBytes (fun o => byteOf o.code) a.outcome

/-- A Call List entry: port, reasons, state, raise time (07 R119). -/
def Call.bytes (c : Call) : List Byte :=
  byteOf c.port.val ++ byteOf ((if c.passenger then 1 else 0) + (if c.wake then 2 else 0)) ++ byteOf c.state.code ++
    bytes4 c.raised.toNat

/-- A ramp profile: its six fields in the order of 06 R100. -/
def Profile.bytes (p : Profile) : List Byte :=
  byteOf p.startGain ++ byteOf p.stage1Gain ++ byteOf p.stage2Gain ++ bytes2 p.stepMs ++ byteOf p.stepSize ++
    bytes2 p.answerS

/-- The alert configuration: its five fields in the order of 08 R126, in one data item (DEDUCED, log 5). -/
def AlertConfig.bytes (c : AlertConfig) : List Byte :=
  byteOf c.edge.code ++ byteOf c.source.code ++ byteOf c.budget ++ byteOf c.gap ++ byteOf c.duration

/-- The eight policy settings in the order of 05 R86, one item each. -/
def Policy.data (p : Policy) : List (List Byte) :=
  [byteOf p.dayCeiling, byteOf p.quietCeiling, byteOf p.speakerCeiling, byteOf p.safetyGain, byteOf p.alertGain,
    byteOf p.reload, byteOf p.unit.code, flagByte p.driverNight]

/-- The port's configuration: zone, auto-power, crew mark (09 R147), in one data item (DEDUCED, log 5). -/
def PortRec.configBytes (r : PortRec) : List Byte := byteOf r.zone.val ++ flagByte r.auto ++ flagByte r.crew

/-- A port record: its present fields in the order of 09 R139 (R148). Headphones are PRESENT 0, ABSENT 1, and the unit kind
is the code the unit reported, SCREEN_AUDIO 1, AUDIO_ONLY 2 (DEDUCED, log 5). -/
def PortRec.bytes (r : PortRec) : List Byte :=
  byteOf r.state.code ++ optBytes (fun c => byteOf c.code) r.cause ++ byteOf r.switch.code ++ byteOf r.request.code ++
    optBytes (fun c => byteOf c.code) r.command ++ optBytes (fun o => byteOf o.code) r.outcome ++ r.configBytes ++
    optBytes (fun i : Identity => [i.kind.code] ++ byteOf i.level) r.identity ++
    byteOf (if r.headphones then 0 else 1) ++ byteOf r.misses ++ optBytes (fun n => byteOf n.toNat) r.baseline ++
    optBytes (fun n => byteOf n.toNat) r.lastTaken ++ optBytes (presBytes 0) r.desired ++
    optBytes Versioned.bytes r.lastSent ++ optBytes Versioned.bytes r.acked ++ marksBytes r.flags

/-- A descriptor: kind, track count, languages (11 R163). -/
def Descriptor.bytes (d : Descriptor) : List Byte :=
  byteOf d.kind.code ++ byteOf d.languages.length ++ d.languages.flatMap fun l => byteOf l.val

/-- The data items of a response: identifiers from 1, value length, value (R181). -/
def dataItems : (first : Nat) → List (List Byte) → List Byte
  | _, [] => []
  | k, v :: rest => [BitVec.ofNat 8 k, BitVec.ofNat 8 v.length] ++ v ++ dataItems (k + 1) rest

/-- The frame of a held response (R181). -/
def Reply.frame (r : Reply) : List Byte :=
  let body := dataItems 1 r.data
  [0x5A#8, r.code] ++ byteOf r.status.code ++ byteOf body.length ++ body

/-- The frame clocked out while no response is held (R171, R181). -/
def emptyFrame : List Byte := [0#8, 0#8, 0#8, 0#8]

end Sys2Proof.Machine
end

