-- ==== Sys2Proof/Machine/Ops.lean ====
section
/-! DEFINITION. The named operations over the Berth Table, the Night Policy Unit, the Digest Unit and the Command Port:
claims on berth records (spec/01 R4, R5), inactivity timers (05 R91), walks (12 R178), and building a response (12 R170,
R171). -/

namespace Sys2Proof.Machine

open Sys2Proof

/-- What a step answers. -/
abbrev Answer := Host.Outcome State Fault Refusal

/-- The expiry of a timer: a late one is not taken, and leaves the state as it is (05 R93, 10 R158, 11 R169; DEDUCED,
log 13). -/
def unlessLate {α : Type} (e : Expiry α) (s : State) (f : α → Answer) : Answer :=
  if e.late then .next s else f e.site

/-! ### Responses (12 R170 to R172) -/

/-- The response of the request `code` is built and held; a response held before it is discarded (R171). -/
def State.respond (code : Byte) (status : Status) (data : List (List Byte)) (s : State) : State :=
  { s with reply := some { code, status, data } }

/-- A refused request: its status goes in the response, and nothing else changes (R170, R172). -/
def refuse (code : Byte) (status : Status) (s : State) : Answer := .next (s.respond code status [])

/-! ### The digest (12 R178) -/

/-- A walk starts from slot 0 under the settings in force; a walk in progress is abandoned. -/
def Digest.startWalk (d : Digest) : Digest := { d with walk := some { poly := d.poly, order := d.order } }

/-- The bytes a walk feeds: slots 0..39 in ascending order. -/
def tableBytes (slots : Vector (Option Berth) 40) : List Byte := allPorts.flatMap fun p => slotBytes slots[p]

/-- The CRC of a walk over the table. -/
def Walk.crc (w : Walk) (slots : Vector (Option Berth) 40) : Crc :=
  match w.poly, w.order with
  | .digestA, .msbFirst => crcUp 0x1021#16 (tableBytes slots)
  | .digestB, .msbFirst => crcUp 0x8005#16 (tableBytes slots)
  | .digestA, .lsbFirst => crcDown 0x8408#16 (tableBytes slots)
  | .digestB, .lsbFirst => crcDown 0xA001#16 (tableBytes slots)

/-! ### Claims on berth records (01 R4) -/

/-- The generation advances by one, modulo 256, exactly if another image field changed. -/
def Image.advance (old new : Image) : Image :=
  let kept := { new with generation := old.generation }
  if kept = old then old else { kept with generation := old.generation + 1 }

/-- The run condition of an inactivity timer, for an open berth (05 R91). -/
def Image.runs (alert : AlertState) (i : Image) : Bool :=
  decide (i.state = .awake) && !i.idle && decide (alert = .clear)

/-- The load of an inactivity timer (05 R91). -/
def Policy.load (p : Policy) : Reload := { amount := p.reload, unit := p.unit }

/-- The timer after an event: STOPPED where the run condition fails; loaded where it begins to hold or on passenger
activity; else as it was (R91). -/
def nextTimer (before after activity : Bool) (load : Reload) (timer : Option Reload) : Option Reload :=
  if !after then none else if !before || activity then some load else timer

/-- One claim taken whole on one record (R4), with its effect on the inactivity timer (R91, R96). -/
def Berth.claim (alert : AlertState) (load : Reload) (activity : Bool) (f : Image → Image) (b : Berth) : Berth :=
  let img := b.image.advance (f b.image)
  { b with image := img, timer := nextTimer (b.image.runs alert) (img.runs alert) activity load b.timer }

/-- The image of each slot, vacant or open. -/
def slotImages (slots : Vector (Option Berth) 40) : List (Option Image) :=
  allPorts.map fun p => slots[p].map Berth.image

/-- The Berth Table as an event left it: a walk starts exactly if some slot's image changed (R5, 12 R178). -/
def State.putSlots (slots : Vector (Option Berth) 40) (s : State) : State :=
  { s with
    slots := slots
    digest := if slotImages slots = slotImages s.slots then s.digest else s.digest.startWalk }

/-- One open berth is changed; a VACANT slot stays VACANT (R17: the claim is dropped). -/
def State.mapBerth (p : Port) (f : Berth → Berth) (s : State) : State :=
  s.putSlots (s.slots.set p.val (s.slots[p].map f))

/-- Every open berth is changed, each by its own claim. -/
def State.mapBerths (f : Port → Berth → Berth) (s : State) : State :=
  s.putSlots (Vector.ofFn fun p => s.slots[p].map (f p))

/-- One claim on the record of a port. -/
def State.claim (p : Port) (activity : Bool) (f : Image → Image) (s : State) : State :=
  s.mapBerth p (Berth.claim s.alert.state s.policy.load activity f)

/-- One claim on every open record. -/
def State.claimAll (f : Port → Image → Image) (s : State) : State :=
  s.mapBerths fun p => Berth.claim s.alert.state s.policy.load false (f p)

/-- The image of an open slot. -/
def State.image (s : State) (p : Port) : Option Image := s.slots[p].map Berth.image

/-- The slot of the port is OPEN. -/
def State.isOpen (s : State) (p : Port) : Bool := s.slots[p].isSome

/-- The ports whose slots are OPEN, ascending (R19). -/
def State.openPorts (s : State) : PortSet := allPorts.filter s.isOpen

/-- The port whose open record holds the occupant reference (R8, R19). -/
def State.portOfRef (s : State) (ref : Nat) : Option Port :=
  allPorts.find? fun p => s.slots[p].any fun b => b.image.ref == ref

/-! ### Changes of the record -/

/-- The wake status derived from the stop and the lead (R6). -/
def Image.deriveWake (i : Image) : Image :=
  { i with wake := if i.stop.isSome && i.lead.isSome then .armed else .none }

/-- Passenger activity on the record: idle is cleared and a NIGHT berth becomes AWAKE (R25). -/
def Image.active (i : Image) : Image :=
  { i with idle := false, state := if i.state = .night then .awake else i.state }

/-- A move of the berth to NIGHT; idle is cleared within it (05 R90). -/
def Image.toNight (i : Image) : Image := { i with state := .night, idle := false }

/-- The wake status is RINGING_1 or RINGING_2. -/
def WakeStatus.ringing (w : WakeStatus) : Bool := decide (w = .ringing1) || decide (w = .ringing2)

/-- A change set applied, with the wake status derived if it names the stop or the lead (R12). -/
def Changes.apply (c : Changes) (i : Image) : Image :=
  let j := { i with
    program := c.program.getD i.program
    language := c.language.getD i.language
    volume := c.volume.getD i.volume
    ceiling := c.ceiling.getD i.ceiling
    locked := c.locked.getD i.locked
    lamp := c.lamp.getD i.lamp
    stop := c.stop.getD i.stop
    lead := c.lead.getD i.lead }
  if c.namesWake then j.deriveWake else j

/-- The record OPEN_BERTH makes (R9). -/
def OpenParams.image (q : OpenParams) : Image :=
  Image.deriveWake
    { ref := q.ref, generation := 0#8, state := .awake, idle := false, program := q.program, language := q.language
      volume := q.volume, ceiling := q.ceiling, locked := q.locked, lamp := q.lamp, stop := q.stop, lead := q.lead
      wake := .none }

/-- The open berth OPEN_BERTH makes: its timer loaded while the alert is CLEAR, button IDLE, no ramp (R9). -/
def OpenParams.berth (alert : AlertState) (load : Reload) (q : OpenParams) : Berth :=
  { image := q.image, timer := if alert = .clear then some load else none, button := .idle, ramp := none }

/-! ### Effective ceiling (02 R37) -/

/-- The mode ceiling of the Night Policy Unit. -/
def State.modeCeiling (s : State) : Nat :=
  match s.quiet with
  | .day => s.policy.dayCeiling
  | .quiet => s.policy.quietCeiling

/-- The effective ceiling of an open berth on a port. -/
def State.ceiling (s : State) (p : Port) (i : Image) : Nat :=
  let start := i.ceiling.getD s.modeCeiling
  if s.quiet = .quiet ∧ s.ports[p].headphones = false then min start s.policy.speakerCeiling else start

/-! ### Free values (log 1) -/

/-- The remaining time of a running timer: a free value in 0..the time loaded. -/
def freeRemaining (k loaded : Nat) : Nat := Config.freeTime k % (loaded + 1)

/-- The counter advances past `n` free values. -/
def State.useFree (n : Nat) (s : State) : State := { s with free := s.free + n }

end Sys2Proof.Machine
end

