-- ==== Sys2Proof/Machine/Roster.lean ====
section
/-! DEFINITION. The named operations of the Announcement Roster and the Channel Allocator (spec/03, spec/04): rank, the
wait list, the scan, grants, preemption, the playout-end accounting, entry to DONE, admission and the retire. -/

namespace Sys2Proof.Machine

open Sys2Proof

/-! ### Records -/

/-- The record is live: any state but DONE (R48). -/
def Ann.live (a : Ann) : Bool := decide (a.state ≠ .done)

/-- The record is in LEAD_IN or PLAYING: it holds a channel (R54). -/
def Ann.onAir (a : Ann) : Bool := decide (a.state = .leadIn) || decide (a.state = .playing)

/-- The record is QUEUED or HELD: it is in the wait list (R57). -/
def Ann.waits (a : Ann) : Bool := decide (a.state = .queued) || decide (a.state = .held)

/-- MIC, N0 and N1 are exclusive; the TONE sources are not held (R56). -/
def Source.exclusive : Source → Bool
  | .mic => true
  | .n0 => true
  | .n1 => true
  | .chime => false
  | .alertTone => false

/-- The source is an announcement feed. -/
def Source.isFeed : Source → Bool
  | .n0 => true
  | .n1 => true
  | .mic => false
  | .chime => false
  | .alertTone => false

/-- The feed index of an announcement feed: N0 is 12, N1 is 13 (11 R163). -/
def Source.feed : Source → Option FeedIx
  | .n0 => some 12
  | .n1 => some 13
  | .mic => none
  | .chime => none
  | .alertTone => none

/-- The running timer of a record, with its loaded time in ms: the lead-in timer in LEAD_IN, the duration timer in
PLAYING, the gap timer in GAP (R54, 04 R68). -/
def Ann.timer (a : Ann) : Option Nat :=
  match a.state with
  | .leadIn => some (a.leadIn * 500)
  | .playing => some (a.duration * 1000)
  | .gap => some (a.gap * 1000)
  | .queued => none
  | .held => none
  | .done => none

/-! ### Rank (R50) -/

/-- The classes, highest first. -/
def AnnClass.byRank : List AnnClass := [.safety, .driver, .stop, .service]

/-- The record in a slot. -/
def Roster.rec? (r : Roster) (h : Handle) : Option Ann := r.recs[h]

/-- The record in a slot is there and satisfies a test. -/
def Roster.test (r : Roster) (f : Ann → Bool) (h : Handle) : Bool := (r.rec? h).any f

/-- The occupied slots from the highest rank to the lowest: by class, then earlier admission first. -/
def Roster.ranked (r : Roster) : List Handle :=
  AnnClass.byRank.flatMap fun c => r.order.filter (r.test fun a => decide (a.cls = c))

/-- Slot `v` ranks below slot `h`. -/
def Roster.ranksBelow (r : Roster) (h v : Handle) : Bool := ((r.ranked.dropWhile (· != h)).drop 1).contains v

/-- The wait list, in its order (R57). -/
def Roster.waitList (r : Roster) : List Handle := r.ranked.filter (r.test Ann.waits)

/-- The current announcement of a berth and its channel: the highest-ranked record in LEAD_IN or PLAYING whose audience
contains it (02 R33, 04 R71). -/
def Roster.current (r : Roster) (p : Port) : Option (Ann × Channel) :=
  r.ranked.findSome? fun h =>
    match r.rec? h with
    | some a => if a.onAir && a.audience.contains p then a.channel.map fun c => (a, c) else none
    | none => none

/-! ### Channels and sources (R56) -/

/-- The slot that holds a channel. -/
def Roster.channelHolder (r : Roster) (c : Channel) : Option Handle :=
  allHandles.find? (r.test fun a => a.onAir && decide (a.channel = some c))

/-- The slot that holds an exclusive source. -/
def Roster.sourceHolder (r : Roster) (src : Source) : Option Handle :=
  allHandles.find? (r.test fun a => a.onAir && decide (a.source = src))

/-- The lowest-numbered FREE channel. -/
def Roster.freeChannel (r : Roster) : Option Channel :=
  (List.finRange 4).find? fun c => (r.channelHolder c).isNone

/-- The source is FREE or a TONE. -/
def Roster.sourceFree (r : Roster) (src : Source) : Bool := !src.exclusive || (r.sourceHolder src).isNone

/-- The record in an occupied slot is replaced. -/
def Roster.put (h : Handle) (a : Ann) (r : Roster) : Roster := { r with recs := r.recs.set h.val (some a) }

/-! ### The Roster with the coach flags it sets -/

/-- The Roster and the coach flags, as an event changes them together. -/
structure Desk where
  roster : Roster
  coach : BitVec 8
  deriving DecidableEq, Repr

/-- A coach flag is set. -/
def Desk.flag (k : CoachKind) (d : Desk) : Desk := { d with coach := d.coach ||| k.mark }

/-- The record of a slot is replaced by a function of it; a FREE slot stays FREE. -/
def Desk.update (h : Handle) (f : Ann → Ann) (d : Desk) : Desk :=
  match d.roster.rec? h with
  | some a => { d with roster := d.roster.put h (f a) }
  | none => d

/-! ### Lead-in start (04 R69, R70) -/

/-- Eligibility of a berth for an announcement, by class and berth state (R69). -/
def Ann.eligible (driverNight : Bool) (i : Image) (a : Ann) : Bool :=
  match i.state with
  | .awake => true
  | .waking => true
  | .night =>
    match a.cls with
    | .safety => true
    | .driver => driverNight
    | .stop => i.stop.isSome && decide (i.stop = a.stop)
    | .service => false

/-- The berth of a port is open and eligible. -/
def State.eligible (env : State) (a : Ann) (p : Port) : Bool :=
  (env.image p).any fun i => a.eligible env.policy.driverNight i

/-- The port is ACTIVE. -/
def State.isActive (env : State) (p : Port) : Bool := decide (env.ports[p].state = .active)

/-- The record at its grant: ineligible owed berths are withheld, the audience is formed, the lead-in starts. -/
def Ann.startLeadIn (env : State) (c : Channel) (a : Ann) : Ann :=
  let owed := a.owed.filter (env.eligible a)
  { a with
    state := .leadIn
    channel := some c
    owed := owed
    withheld := a.withheld + (a.owed.length - owed.length)
    audience := owed.filter env.isActive
    joined := []
    granted := true }

/-- A grant (R58): the lowest-numbered FREE channel, the source, and LEAD_IN; ANNOUNCE_REPEAT at every grant but the
first of a record whose source is N0 or N1 (04 R70). -/
def Desk.grant (env : State) (h : Handle) (d : Desk) : Desk :=
  match d.roster.rec? h, d.roster.freeChannel with
  | some a, some c =>
    let d' := { d with roster := d.roster.put h (a.startLeadIn env c) }
    if a.source.isFeed && a.granted then d'.flag .announceRepeat else d'
  | _, _ => d

/-- The record could be granted now: it waits, and its source is FREE or a TONE. -/
def Roster.grantable (r : Roster) (h : Handle) : Bool := r.test (fun a => a.waits && r.sourceFree a.source) h

/-- One record of the scan: granted if a channel is FREE and its source is FREE or a TONE (R58). -/
def Desk.offer (env : State) (d : Desk) (h : Handle) : Desk :=
  if d.roster.grantable h && d.roster.freeChannel.isSome then d.grant env h else d

/-- The Allocator's scan of the wait list, from its head (R58). -/
def Desk.scan (env : State) (d : Desk) : Desk := d.roster.waitList.foldl (Desk.offer env) d

/-! ### Preemption (R60, R61) -/

/-- The lowest-ranked record in LEAD_IN or PLAYING. -/
def Roster.lowestOnAir (r : Roster) : Option Handle := (r.ranked.filter (r.test Ann.onAir)).getLast?

/-- The victim of a record that joined as QUEUED and was not granted (R60). -/
def Roster.victim (r : Roster) (h : Handle) : Option Handle :=
  match r.rec? h with
  | none => none
  | some a =>
    let candidate := if r.sourceFree a.source then r.lowestOnAir else r.sourceHolder a.source
    candidate.filter (r.ranksBelow h)

/-- The victim becomes HELD: audience and joined set empty, channel and source released, counts kept (R61). -/
def Ann.hold (a : Ann) : Ann := { a with state := .held, channel := none, audience := [], joined := [] }

/-- A record that is QUEUED joins the wait list: the scan, then, if it is not granted, at most one victim (R58, R60). -/
def Desk.join (env : State) (h : Handle) (d : Desk) : Desk :=
  let d1 := d.scan env
  if d1.roster.test Ann.waits h then
    match d1.roster.victim h with
    | some v => ((d1.update v Ann.hold).grant env h).scan env
    | none => d1
  else d1

/-! ### Playout end and entry to DONE (R55, 04 R76) -/

/-- The record enters DONE with an outcome; the owed set, counts and repeats left are kept (R55). -/
def Ann.finish (o : AnnOutcome) (a : Ann) : Ann :=
  { a with state := .done, channel := none, audience := [], joined := [], outcome := some o }

/-- Entry to DONE sets ANNOUNCE_DONE (R55); the scan follows where a resource was released. -/
def Desk.finish (o : AnnOutcome) (h : Handle) (d : Desk) : Desk :=
  if (d.roster.rec? h).isSome then (d.update h (Ann.finish o)).flag .announceDone else d

/-- Step 1 of R76: the joined ports are reached. -/
def Ann.reach (a : Ann) : Ann :=
  let owed := a.owed.filter fun p => !a.joined.contains p
  { a with owed := owed, reached := a.reached + (a.owed.length - owed.length) }

/-- A repetition ends with owed berths and repeats left: GAP (R76). -/
def Ann.toGap (a : Ann) : Ann :=
  { a with state := .gap, channel := none, audience := [], joined := [], left := a.left - 1 }

/-- The playout-end accounting of R76, its scan not included. -/
def Desk.account (h : Handle) (d : Desk) : Desk :=
  match d.roster.rec? h with
  | none => d
  | some a =>
    let b := a.reach
    let d' := { d with roster := d.roster.put h b }
    if b.owed = [] then d'.finish .complete h
    else if 0 < b.left then { d with roster := d.roster.put h b.toGap }
    else d'.finish .partialReach h

/-- The playout-end accounting with the scan that follows the release (R76). -/
def Desk.endRepetition (env : State) (h : Handle) (d : Desk) : Desk := (d.account h).scan env

/-- Its joined set is emptied without counting anyone (04 R77). -/
def Ann.unjoin (a : Ann) : Ann := { a with joined := [] }

/-- The slot of the record PLAYING from a source. -/
def Roster.playingFrom (r : Roster) (src : Source) : Option Handle :=
  allHandles.find? (r.test fun a => decide (a.state = .playing) && decide (a.source = src))

/-- A playout from a source ends: with its joined berths reached, or with nobody reached (04 R75, R77). -/
def Desk.endPlayoutFrom (env : State) (src : Source) (reach : Bool) (d : Desk) : Desk :=
  match d.roster.playingFrom src with
  | none => d
  | some h => (if reach then d else d.update h Ann.unjoin).endRepetition env h

/-! ### Lead-in end (04 R72) -/

/-- A presentation carries the channel as audio. -/
def Presentation.carries (c : Channel) (d : Presentation) : Bool := decide (d.audio = .announce c)

/-- A port's desired presentation carries the channel. -/
def PortRec.desires (c : Channel) (r : PortRec) : Bool := r.desired.any (Presentation.carries c)

/-- A port's acknowledged presentation carries the channel. -/
def PortRec.hears (c : Channel) (r : PortRec) : Bool := r.acked.any fun v => v.pres.carries c

/-- The joined set at playout start: audience ports whose acknowledged and desired audio both carry the channel. -/
def Ann.startPlayout (ports : Vector PortRec 40) (a : Ann) : Ann :=
  { a with
    state := .playing
    joined := a.audience.filter fun p => a.channel.any fun c => ports[p].hears c && ports[p].desires c }

/-! ### Admission (R50 to R53) -/

/-- No record present holds the number. -/
def Roster.numberFree (r : Roster) (n : Count32) : Bool := !allHandles.any (r.test fun a => decide (a.number = n))

/-- The first number from `n` on that no record present holds, over at most `fuel` steps. -/
def Roster.nextNumber (r : Roster) : (fuel : Nat) → Count32 → Count32
  | 0, n => n
  | fuel + 1, n => if r.numberFree n then n else r.nextNumber fuel (n + 1#32)

/-- The slot is FREE: the record and all its fields are gone (R65). -/
def Roster.free (h : Handle) (r : Roster) : Roster :=
  { r with recs := r.recs.set h.val none, order := r.order.filter (· != h) }

/-- A new record is placed in a slot with the next admission number; what stood in the slot is gone (R50, R52, R67). -/
def Roster.enroll (h : Handle) (a : Ann) (r : Roster) : Roster :=
  let r' := r.free h
  let n := r'.nextNumber 16 r'.counter
  { recs := r'.recs.set h.val (some { a with number := n }), order := r'.order ++ [h], counter := n + 1#32 }

/-- A port with an OPEN slot matches a target (R52). -/
def Target.hits (zone : Fin 8) (p : Port) (i : Image) : Target → Bool
  | .all => true
  | .zones m => m.getLsbD zone.val
  | .berths ps => ps.contains p
  | .stop s => decide (i.stop = some s)

/-- The owed set at admission, from the Berth Table as it stands (R52). -/
def State.owedSet (env : State) (t : Target) (language : Option (Fin 16)) : PortSet :=
  allPorts.filter fun p =>
    (env.image p).any fun i => t.hits env.ports[p].zone p i && language.all (· == i.language)

/-- A record as admitted (R49, R52): QUEUED, its counts 0, its repeats left the budget. -/
def Ann.asAdmitted (owed : PortSet) (a : Ann) : Ann :=
  { a with
    state := .queued, channel := none, owed := owed, audience := [], joined := [], admitted := owed.length
    reached := 0, withheld := 0, withdrawn := 0, left := a.budget, outcome := none, granted := false }

/-- An admission into a slot (R52, R53): DONE with NO_AUDIENCE on an empty owed set, else QUEUED and the join. -/
def Desk.enroll (env : State) (h : Handle) (a : Ann) (d : Desk) : Desk :=
  let d' := { d with roster := d.roster.enroll h a }
  if a.owed = [] then d'.finish .noAudience h else d'.join env h

/-- The lowest-numbered FREE slot among 0..14 (R52). -/
def Roster.freeSlot (r : Roster) : Option Handle :=
  allHandles.find? fun h => decide (h.val < 15) && (r.rec? h).isNone

/-! ### The retire (01 R16, 04 R79, R80) -/

/-- The port leaves the owed set, the audience and the joined set; the withdrawn count rises by one if it was owed. -/
def Ann.withdraw (p : Port) (a : Ann) : Ann :=
  { a with
    owed := a.owed.erase p
    audience := a.audience.erase p
    joined := a.joined.erase p
    withdrawn := a.withdrawn + (if a.owed.contains p then 1 else 0) }

/-- One record at a retire: its sets, then what an emptied owed set or audience does in its state (R79, R80). -/
def Desk.retireFrom (p : Port) (d : Desk) (h : Handle) : Desk :=
  match d.roster.rec? h with
  | none => d
  | some a =>
    let b := a.withdraw p
    let d' := { d with roster := d.roster.put h b }
    match a.state with
    | .queued => if a.owed.contains p && b.owed.isEmpty then d'.finish .complete h else d'
    | .held => if a.owed.contains p && b.owed.isEmpty then d'.finish .complete h else d'
    | .gap => if a.owed.contains p && b.owed.isEmpty then d'.finish .complete h else d'
    | .playing => if a.audience.contains p && b.audience.isEmpty then d'.account h else d'
    | .leadIn => d'
    | .done => d'

/-- The retire at the Roster: every record in one step, then one scan (R16; log 7). -/
def Desk.retire (env : State) (p : Port) (d : Desk) : Desk := (allHandles.foldl (Desk.retireFrom p) d).scan env

/-! ### The alert announcement (03 R67, 08 R131, R132) -/

/-- Slot 15. -/
def alertSlot : Handle := 15

/-- The fields of a fresh alert admission (R131). -/
def alertAnn (c : AlertConfig) : Ann :=
  { tag := 0, cls := .safety, source := c.source, target := .all, stop := none, language := none, leadIn := 2
    chime := true, duration := c.duration, budget := c.budget, gap := c.gap, number := 0#32, state := .queued
    channel := none, owed := [], audience := [], joined := [], admitted := 0, reached := 0, withheld := 0
    withdrawn := 0, left := c.budget, outcome := none, granted := false }

/-- A re-arm of a live slot 15 (R132). -/
def Ann.rearm (openPorts : PortSet) (budget : Nat) (a : Ann) : Ann :=
  let owed := allPorts.filter fun p => a.owed.contains p || openPorts.contains p
  { a with
    owed := owed, admitted := owed.length, reached := 0, withheld := 0, withdrawn := 0, budget := budget
    left := budget }

/-- Slot 15 at alert entry: a re-arm if it holds a live record, else a fresh admission (R129, step 3). -/
def Desk.alertEntry (env : State) (d : Desk) : Desk :=
  if d.roster.test Ann.live alertSlot then
    d.update alertSlot (Ann.rearm env.openPorts env.alert.config.budget)
  else
    d.enroll env alertSlot ((alertAnn env.alert.config).asAdmitted env.openPorts)

/-! ### On the whole state -/

/-- An event at the Roster, which reads the other blocks as they stand (`s`) and may set coach flags. -/
def State.atDesk (f : State → Desk → Desk) (s : State) : State :=
  let d := f s { roster := s.roster, coach := s.events.coach }
  { s with roster := d.roster, events := { s.events with coach := d.coach } }

end Sys2Proof.Machine
end

