-- ==== Sys2Proof/Machine/Resolver.lean ====
section
/-! DEFINITION. The Presentation Resolver (spec/02 R31 to R40): the desired presentation of a port as a function of its
inputs, the recomputation with the joined-set departures it causes (04 R74), what each lane channel carries (R30, R68,
R168), and `settle`, which ends every event that changes an input. -/

namespace Sys2Proof.Machine

open Sys2Proof

/-- The vacant presentation (R28). -/
def Presentation.vacant : Presentation := { video := none, audio := .silent, gain := 0, screen := .off, lamp := .off }

/-- The feed of a program. -/
def State.programFeed (s : State) (c : Program) : Feed := s.feeds[c.val]'(by omega)

/-- The unit of the port is of kind SCREEN_AUDIO. -/
def PortRec.hasScreen (r : PortRec) : Bool := r.identity.any fun i => decide (i.kind = .screenAudio)

/-- The feed carries a picture: kind VIDEO_AUDIO. -/
def Feed.hasVideo (f : Feed) : Bool := f.desc.any fun d => decide (d.kind = .videoAudio)

/-- The program video of R36. -/
def State.programVideo (s : State) (p : Port) (i : Image) : Option Program :=
  i.program.filter fun c =>
    decide ((s.programFeed c).state = .active) && (s.programFeed c).hasVideo && s.ports[p].hasScreen

/-- The lowest-numbered track in a language, or track 0 (R36). -/
def Descriptor.track (language : Fin 16) (d : Descriptor) : Nat :=
  let t := d.languages.findIdx (· == language)
  if t < d.languages.length then t else 0

/-- The program audio of R36. -/
def State.programAudio (s : State) (i : Image) : Audio :=
  match i.program with
  | none => .silent
  | some c =>
    if (s.programFeed c).state = .active then
      .program c ((s.programFeed c).desc.elim 0 (Descriptor.track i.language))
    else .silent

/-- The gain of R38, for a case that does not fix it. -/
def State.gain (s : State) (p : Port) (b : Berth) (current : Option Ann) (audio : Audio) : Nat :=
  let rampGain := b.ramp.elim 0 Ramp.gain
  if s.alert.state = .active then s.policy.alertGain
  else if current.any fun a => decide (a.cls = .safety) then max b.image.volume s.policy.safetyGain
  else if audio = .wake ∧ b.image.wake = .ringing2 then rampGain
  else if audio = .wake ∧ b.image.wake = .ringing1 then min rampGain (s.ceiling p b.image)
  else min b.image.volume (s.ceiling p b.image)

/-- The port's Call List entry, if it has one (07 R119). -/
def State.callOf (s : State) (p : Port) : Option Call := s.calls.find? fun c => c.port == p

/-- The port has a Call List entry in a state. -/
def State.callIn (s : State) (p : Port) (st : CallState) : Bool := (s.callOf p).any fun c => decide (c.state = st)

/-- The lamp of R39. -/
def State.lamp (s : State) (p : Port) (i : Image) : Lamp :=
  if s.alert.state = .active then .blink
  else
    match i.lamp with
    | .off => .off
    | .on => .on
    | .blink => .blink
    | .auto =>
      if i.state = .waking ∨ s.callIn p .pending then .blink
      else if s.callIn p .attended then .on
      else .off

/-- Cases 3 to 7 of R32, for an open berth on an ACTIVE port. -/
def State.occupied (s : State) (p : Port) (b : Berth) : Presentation :=
  let i := b.image
  let lamp := s.lamp p i
  match s.roster.current p with
  | some (a, c) =>
    { video := if i.state = .awake ∧ s.alert.state = .clear then s.programVideo p i else none
      audio := .announce c
      gain := s.gain p b (some a) (.announce c)
      screen := if i.state = .night ∧ s.alert.state = .clear then .dim else .on
      lamp := lamp }
  | none =>
    if s.alert.state = .clear then
      match i.state with
      | .waking =>
        { video := none, audio := .wake, gain := s.gain p b none .wake, screen := .on, lamp := lamp }
      | .night => { video := none, audio := .silent, gain := 0, screen := .off, lamp := lamp }
      | .awake =>
        { video := s.programVideo p i
          audio := s.programAudio i
          gain := s.gain p b none (s.programAudio i)
          screen := if i.idle then .dim else .on
          lamp := lamp }
    else
      let audio : Audio := if i.state = .waking then .wake else .silent
      { video := none, audio := audio, gain := s.gain p b none audio, screen := .on, lamp := lamp }

/-- The desired presentation of a port, by the first case of R32 that applies; none in case 1. -/
def State.resolve (s : State) (p : Port) : Option Presentation :=
  if s.ports[p].state = .active then
    match s.slots[p] with
    | none => some Presentation.vacant
    | some b => some (s.occupied p b)
  else none

/-! ### Recomputation (R31, R40) and departures (04 R74) -/

/-- During a playout a berth whose desired audio does not carry the record's channel is not in the joined set. -/
def Ann.depart (ports : Vector PortRec 40) (a : Ann) : Ann :=
  if a.state = .playing then
    { a with joined := a.joined.filter fun p => a.channel.any fun c => ports[p].desires c }
  else a

/-- Every record's departures. -/
def Roster.depart (ports : Vector PortRec 40) (r : Roster) : Roster :=
  { r with recs := Vector.ofFn fun h => r.recs[h].map (Ann.depart ports) }

/-- The port records with their desired presentations recomputed. -/
def State.resolved (s : State) : Vector PortRec 40 :=
  Vector.ofFn fun p => { s.ports[p] with desired := s.resolve p }

/-- The Resolver recomputes every port and hands the desired audio to the Roster. A port none of whose inputs changed
keeps its desired presentation (R31, R40). -/
def State.refresh (s : State) : State := { s with ports := s.resolved, roster := s.roster.depart s.resolved }

/-- The end of an event that changes inputs of the Resolver or flags: recompute, then judge ATTN (R31, 12 R177). -/
def State.settle (s : State) : State := s.refresh.judgeAttn

/-- A taken request: the event is settled, and its response is built from the state it left (12 R170). -/
def accept (code : Byte) (data : State → List (List Byte)) (s : State) : Answer :=
  .next ((s.settle).respond code .ok (data s.settle))

/-- A request that changes nothing: its response alone. -/
def answer (code : Byte) (data : State → List (List Byte)) (s : State) : Answer := .next (s.respond code .ok (data s))

/-! ### What a lane channel carries (R30, 04 R68, 11 R168) -/

/-- The content of one forward-lane channel, the same on both lanes. -/
inductive Lane where
  | nothing
  | program (c : Program)
  | leadInChime
  | silence
  | mic
  | feed (f : FeedIx)
  | chimeTone
  | alertTone
  | wakeChime
  deriving DecidableEq, Repr

/-- What an announcement channel carries for the record that holds it. -/
def State.annLane (s : State) (a : Ann) : Lane :=
  if a.state = .leadIn then (if a.chime then .leadInChime else .silence)
  else
    match a.source with
    | .mic => .mic
    | .n0 => if s.feeds[(12 : FeedIx)].state = .active then .feed 12 else .silence
    | .n1 => if s.feeds[(13 : FeedIx)].state = .active then .feed 13 else .silence
    | .chime => .chimeTone
    | .alertTone => .alertTone

/-- What channel 0..16 of each forward media lane carries. -/
def State.lane (s : State) (n : Fin 17) : Lane :=
  if h : n.val < 12 then
    if (s.programFeed ⟨n.val, h⟩).state = .active then .program ⟨n.val, h⟩ else .nothing
  else if h : n.val < 16 then
    match (s.roster.channelHolder ⟨n.val - 12, by omega⟩).bind s.roster.rec? with
    | some a => s.annLane a
    | none => .silence
  else .wakeChime

end Sys2Proof.Machine
end

