-- ==== Sys2Proof/Machine/Wake.lean ====
section
/-! DEFINITION. The named operations of the Call List (spec/07 R119 to R121) and of the wake ramps and profiles
(06 R102, R103). -/

namespace Sys2Proof.Machine

open Sys2Proof

/-! ### The Call List -/

inductive CallReason where
  | passenger
  | wake
  deriving DecidableEq, Repr

/-- The entry holds the reason. -/
def Call.has (r : CallReason) (c : Call) : Bool :=
  match r with
  | .passenger => c.passenger
  | .wake => c.wake

/-- The reason is added and the entry is PENDING again; its position and raise time stay (R120). -/
def Call.raise (r : CallReason) (c : Call) : Call :=
  match r with
  | .passenger => { c with passenger := true, state := .pending }
  | .wake => { c with wake := true, state := .pending }

/-- A new entry (R119, R120). -/
def Call.new (p : Port) (r : CallReason) (clock : Count32) : Call :=
  { port := p, passenger := decide (r = .passenger), wake := decide (r = .wake), state := .pending, raised := clock }

/-- A call is raised for a port with one reason (R120). -/
def State.raiseCall (p : Port) (r : CallReason) (s : State) : State :=
  match s.callOf p with
  | none => { s with calls := s.calls ++ [Call.new p r s.clock] }.flagBerth .callRaised p
  | some c =>
    let s' := { s with calls := s.calls.map fun c => if c.port = p then c.raise r else c }
    if c.has r then s' else s'.flagBerth .callRaised p

/-- The port's entry is removed, and the entries behind it keep their order (R121). -/
def State.dropCall (p : Port) (s : State) : State := { s with calls := s.calls.filter fun c => c.port != p }

/-- WAKE is removed from the reasons of the port's entry; an entry with no reason left is removed (R121). -/
def State.dropWakeReason (p : Port) (s : State) : State :=
  { s with
    calls := s.calls.filterMap fun c =>
      if c.port = p then (if c.passenger then some { c with wake := false } else none) else some c }

/-! ### Ramps and profiles -/

/-- The pending profile is copied into the active profile whole (R102). -/
def WakeUnit.copy (w : WakeUnit) : WakeUnit := { w with active := w.pending, waiting := false }

/-- Some ramp is running (R103). -/
def State.anyRamp (s : State) : Bool := allPorts.any fun p => s.slots[p].any fun b => b.ramp.isSome

/-- A waiting copy is made once no ramp runs any more (R102, third point). -/
def State.copyIfIdle (s : State) : State :=
  if s.wake.waiting && !s.anyRamp then { s with wake := s.wake.copy } else s

/-- The ramp at the start of RINGING_1 (R103). -/
def Profile.firstRamp (p : Profile) : Ramp := { gain := p.startGain, stepMs := p.stepMs, answerS := p.answerS }

/-- The ramp at the start of RINGING_2: it keeps its gain (R103). -/
def Profile.secondRamp (p : Profile) (r : Ramp) : Ramp := { gain := r.gain, stepMs := p.stepMs, answerS := p.answerS }

/-- One step of the gain toward the stage end, without passing it (R103). -/
def stepToward (gain stageEnd size : Nat) : Nat :=
  if gain < stageEnd then min (gain + size) stageEnd else max (gain - size) stageEnd

/-- The stage end of the active profile for a wake status. -/
def Profile.stageEnd (p : Profile) (w : WakeStatus) : Nat := if w = .ringing2 then p.stage2Gain else p.stage1Gain

/-- A step boundary on a running ramp: the gain steps, and the step timer is reloaded (R103). -/
def Ramp.step (p : Profile) (w : WakeStatus) (r : Ramp) : Ramp :=
  { r with gain := stepToward r.gain (p.stageEnd w) p.stepSize, stepMs := p.stepMs }

/-- The start of RINGING_1 on a record: one change (R104, 05 R90). -/
def Image.startRinging (i : Image) : Image := { i with wake := .ringing1, state := .waking, idle := false }

/-- The end of a ringing call: the status and, always, AWAKE (R99). -/
def Image.endRinging (w : WakeStatus) (i : Image) : Image := { i with wake := w, state := .awake, idle := false }

/-- RINGING_1 starts on a berth: the window is cancelled and the ramp starts (R103, 07 R115). -/
def Berth.startRinging (alert : AlertState) (load : Reload) (profile : Profile) (b : Berth) : Berth :=
  { b.claim alert load false Image.startRinging with button := .idle, ramp := some profile.firstRamp }

/-- A ringing call of a berth ends and its ramp stops (R103). -/
def Berth.endRinging (alert : AlertState) (load : Reload) (activity : Bool) (w : WakeStatus) (b : Berth) : Berth :=
  { b.claim alert load activity (Image.endRinging w) with ramp := none }

/-- A profile satisfies start gain ≤ stage-1 end gain ≤ stage-2 end gain (R101). -/
def Profile.rising (p : Profile) : Bool :=
  decide (p.startGain ≤ p.stage1Gain) && decide (p.stage1Gain ≤ p.stage2Gain)

end Sys2Proof.Machine
end

