-- ==== Sys2Proof/Machine/Ports.lean ====
section
/-! DEFINITION. The named operations of the Port Controller (spec/09 R138 to R145, R149): moves of a port between its
states, the completion of a power command, faults, presence, and the senses read after a reset. -/

namespace Sys2Proof.Machine

open Sys2Proof

/-! ### Decks and pollers -/

/-- Ports 0..19 are on deck L, ports 20..39 on deck U (00, Conventions). -/
def deckOf (p : Port) : Deck := if p.val < 20 then .lower else .upper

/-- Port `k` of a deck, counted from the deck's first port. -/
def portOf (d : Deck) (k : Fin 20) : Port :=
  match d with
  | .lower => ⟨k.val, by omega⟩
  | .upper => ⟨20 + k.val, by omega⟩

/-- The poller of a deck. -/
def State.poller (s : State) (d : Deck) : Poller :=
  match d with
  | .lower => s.lower
  | .upper => s.upper

/-- The poller of one deck is changed; the other deck's is left as it was (10, introduction). -/
def State.mapPoller (d : Deck) (f : Poller → Poller) (s : State) : State :=
  match d with
  | .lower => { s with lower := f s.lower }
  | .upper => { s with upper := f s.upper }

/-- The result of a turn in flight to the port is discarded (10 R161). -/
def Poller.discard (p : Port) (pl : Poller) : Poller :=
  { pl with turn := pl.turn.map fun t => if t.port = p then { t with discarded := true } else t }

/-- The port leaves LINKING or ACTIVE: a turn in flight to it is discarded (R138, 10 R161). -/
def State.leaveLink (p : Port) (s : State) : State := s.mapPoller (deckOf p) (Poller.discard p)

/-! ### One port record -/

/-- The port is powered while its switch is closed (R138). -/
def PortRec.powered (r : PortRec) : Bool := decide (r.switch = .closed)

/-- The port is polled: LINKING or ACTIVE (10 R151). -/
def PortRec.polled (r : PortRec) : Bool := decide (r.state = .linking) || decide (r.state = .active)

/-- Entry to a state with its switch position and the timer it starts, if any; a running timer is cancelled, the fault
cause is removed and the three presentations are none (R138, 02 R42). -/
def PortRec.enter (st : PortState) (sw : Switch) (timer : Option PortTimer) (r : PortRec) : PortRec :=
  { r with state := st, switch := sw, timer := timer, cause := none, desired := none, lastSent := none, acked := none }

/-- The command in flight completes: the last outcome is written and PORT_COMMAND_DONE is set (R142). -/
def PortRec.complete (o : CommandOutcome) (r : PortRec) : PortRec :=
  { r with command := none, outcome := some o }.setFlag .portCommandDone

/-- A command in flight, if there is one, completes. -/
def PortRec.completeAny (o : CommandOutcome) (r : PortRec) : PortRec :=
  if r.command.isSome then r.complete o else r

/-- FAULT with a cause: the switch opens and a flag is set (R138, R141, R144, R145). -/
def PortRec.fail (c : FaultCause) (k : BerthKind) (r : PortRec) : PortRec :=
  { r.enter .fault .opened none with cause := some c }.setFlag k

/-- A power fault, or a power-good timer that expires: a command in flight completes FAILED, and the port is
FAULT(POWER) (R141, R143). -/
def PortRec.powerFailed (r : PortRec) : PortRec := (r.completeAny .failed).fail .power .powerFault

/-- A link failure: FAULT(LINK) with LINK_FAULT (R144, R145). -/
def PortRec.linkFailed (r : PortRec) : PortRec := r.fail .link .linkFault

/-- A unit fault: FAULT(UNIT) with LINK_FAULT (R144, R145). -/
def PortRec.unitFailed (r : PortRec) : PortRec := r.fail .unit .linkFault

/-- A POWER_ON closes the switch (R142, R143); `sensed` is a power-fault sense asserted at that closing (R141). -/
def PortRec.powerOn (timing : PortTiming) (sensed : Bool) (r : PortRec) : PortRec :=
  let r' := { r.enter .powering .closed (some (.powerGood timing.powerGoodMs)) with
    request := .on, command := some .powerOn }
  if sensed then r'.powerFailed else r'

/-- A POWER_OFF opens the switch and starts the discharge interval (R143). -/
def PortRec.powerOff (r : PortRec) : PortRec :=
  { r.enter .powering .opened (some (.discharge Config.dischargeMs)) with request := .off, command := some .powerOff }

/-- An accepted command that completes at once (R142). -/
def PortRec.doneAtOnce (v : PowerRequest) (r : PortRec) : PortRec := { r with request := v }.complete .done

/-- Power good: the POWER_ON completes DONE, and the port enters LINKING with its link timer loaded (R143, R144). -/
def PortRec.linkUp (timing : PortTiming) (r : PortRec) : PortRec :=
  (r.complete .done).enter .linking .closed (some (.link (timing.linkS * 1000)))

/-- The end of the discharge interval: the POWER_OFF completes DONE, and the port is PRESENT (R143). -/
def PortRec.discharged (r : PortRec) : PortRec := (r.complete .done).enter .present .opened none

/-- A presence rise before any POWER_ON: PRESENT, with PRESENCE set (R140). -/
def PortRec.arrive (r : PortRec) : PortRec := (r.enter .present .opened none).setFlag .presence

/-- A presence rise, with the automatic POWER_ON if auto-power is on (R140). -/
def PortRec.rise (timing : PortTiming) (sensed : Bool) (r : PortRec) : PortRec :=
  if r.auto then r.arrive.powerOn timing sensed else r.arrive

/-- A presence fall: a command in flight completes ABORTED, the port is EMPTY and its unit is forgotten (R140). -/
def PortRec.fall (r : PortRec) : PortRec :=
  { (r.completeAny .aborted).enter .empty .opened none with identity := none, headphones := false }.setFlag .presence

/-- The kind and level of an Identify answer can be accepted (R144). -/
def Identity.acceptable (i : Identity) : Bool :=
  (decide (i.kind = .screenAudio) || decide (i.kind = .audioOnly)) && decide (i.level = 1)

/-- The Identify answer: the identity and headphone state are recorded and the link timer is cancelled; then ACTIVE, or
FAULT(UNIT) (R144). The last taken request number is written on entry to ACTIVE alone, and an answer that makes the port
FAULT(UNIT) leaves it (DEDUCED, log 19). -/
def PortRec.identify (rep : UnitReport) (r : PortRec) : PortRec :=
  let r' := { r with identity := rep.identity, headphones := rep.headphones, timer := none }
  if (rep.identity.any Identity.acceptable) && !rep.fault then
    { r'.enter .active .closed none with
      misses := 0, baseline := some rep.presses, lastTaken := some rep.number, verdicts := none }
  else r'.unitFailed

/-- A miss on a NORMAL turn: the count rises by one, and the third makes the port FAULT(LINK) (R145). -/
def PortRec.miss (r : PortRec) : PortRec :=
  let r' := { r with misses := r.misses + 1 }
  if Config.missLimit ≤ r'.misses then r'.linkFailed else r'

/-! ### On the whole state -/

/-- A port's record is changed by a move that leaves LINKING or ACTIVE, if it was there. -/
def State.dropPort (p : Port) (f : PortRec → PortRec) (s : State) : State := (s.mapPort p f).leaveLink p

/-- A POWER_ON is issued on a port. -/
def State.powerOn (p : Port) (s : State) : State :=
  s.mapPort p (PortRec.powerOn s.timing s.senses.fault[p])

/-- A presence rise is taken on a port (R140). -/
def State.rise (p : Port) (s : State) : State := s.mapPort p (PortRec.rise s.timing s.senses.fault[p])

/-- The presence sense of a port takes a level. -/
def State.sensePresence (p : Port) (high : Bool) (s : State) : State :=
  { s with senses := { s.senses with presence := s.senses.presence.set p.val high } }

/-- The power-fault sense of a port takes a level. -/
def State.senseFault (p : Port) (asserted : Bool) (s : State) : State :=
  { s with senses := { s.senses with fault := s.senses.fault.set p.val asserted } }

/-- Each port whose presence sense stands high is taken as a presence rise (R149). -/
def State.readSenses (s : State) : State :=
  allPorts.foldl (fun t p => if s.senses.presence[p] then t.rise p else t) s

/-- The crew-marked ports of the deck of `p` (R147). -/
def State.crewCount (s : State) (p : Port) : Nat :=
  (allPorts.filter fun q => decide (deckOf q = deckOf p) && s.ports[q].crew).length

/-- Every block in its reset state, the senses read and ATTN judged, with the queue and the counter of free values kept
(12 R174, 09 R149). -/
def State.afterReset (pins : Pins) (s : State) : State :=
  { State.blank pins with pending := s.pending, free := s.free }.readSenses.settle

/-- The levels on the input lines as they stand (09 R140, R141; 08 R127). -/
def State.pins (s : State) : Pins :=
  { presence := s.senses.presence, fault := s.senses.fault, alertIn := s.alert.level }

end Sys2Proof.Machine
end

