-- ==== Sys2Proof/Machine/Passenger.lean ====
section
/-! DEFINITION. What a good Response asks for: presses of the berth button (spec/07 R113 to R117, 06 R109) and passenger
requests (01 R20 to R26, 10 R160). -/

namespace Sys2Proof.Machine

open Sys2Proof

/-! ### Presses -/

/-- The number of new presses, limited to 3 (R113); none without a baseline. -/
def newPresses (baseline : Option (BitVec 4)) (counter : BitVec 4) : Nat :=
  match baseline with
  | none => 0
  | some b => min Config.pressLimit (counter - b).toNat

/-- A claim of passenger activity on a port's record that leaves its button in a state (R114, R116). -/
def State.pressClaim (p : Port) (f : Image → Image) (after : Button) (s : State) : State :=
  s.mapBerth p fun b => { b.claim s.alert.state s.policy.load true f with button := after }

/-- Row 1 of R116: the answer (06 R109). -/
def State.answerCall (p : Port) (s : State) : State :=
  (((s.mapBerth p fun b =>
    { b.endRinging s.alert.state s.policy.load true .answered with button := .idle }).flagBerth
      .wakeAnswered p).dropWakeReason p).copyIfIdle

/-- What a double press makes of the record after the press's activity (R117). -/
def Image.doublePress (alert : AlertState) (i : Image) : Image :=
  if alert = .clear then i.active.toNight else i.active

/-- Rows 2 to 4 of R116, on a berth that is not WAKING. -/
def State.press (p : Port) (button : Button) (s : State) : State :=
  if (s.callOf p).isSome then ((s.pressClaim p Image.active .idle).dropCall p).flagBerth .callCancelled p
  else
    match button with
    | .idle => s.pressClaim p Image.active (.armed s.windowMs)
    | .armed _ => s.pressClaim p (Image.doublePress s.alert.state) .idle

/-- The presses of one Response, one after another; the answer discards those behind it, and a VACANT slot discards all
(R113, R114, R116). -/
def State.presses (p : Port) : (n : Nat) → State → State
  | 0, s => s
  | n + 1, s =>
    match s.slots[p] with
    | none => s
    | some b => if b.image.state = .waking then s.answerCall p else (s.press p b.button).presses p n

/-! ### Passenger requests -/

/-- A request whose values are in range (13 R183). -/
inductive PassengerRequest where
  | selectProgram (program : Option Program)
  | setLanguage (language : Fin 16)
  | setVolume (volume : Fin 32)
  | stepVolume (up : Bool)
  deriving DecidableEq, Repr

/-- SELECT_PROGRAM 1, SET_LANGUAGE 2, SET_VOLUME 3, STEP_VOLUME 4; none is INVALID (13 R183). -/
def passengerRequest (code value : Byte) : Option PassengerRequest :=
  match code.toNat with
  | 1 =>
    if value = 0xFF#8 then some (.selectProgram none)
    else if h : value.toNat < 12 then some (.selectProgram (some ⟨value.toNat, h⟩)) else none
  | 2 => if h : value.toNat < 16 then some (.setLanguage ⟨value.toNat, h⟩) else none
  | 3 => if h : value.toNat < 32 then some (.setVolume ⟨value.toNat, h⟩) else none
  | 4 => if value = 1#8 then some (.stepVolume true) else if value = 0#8 then some (.stepVolume false) else none
  | _ => none

/-- The lock that binds a request (01 R13). -/
def PassengerRequest.lockedBy (q : PassengerRequest) (l : Locks) : Bool :=
  match q with
  | .selectProgram _ => l.program
  | .setLanguage _ => l.language
  | .setVolume _ => l.volume
  | .stepVolume _ => l.volume

/-- The new volume and the verdict of a STEP_VOLUME (R24). -/
def stepVolume (up : Bool) (volume ceiling : Nat) : Verdict × Nat :=
  if up then (if volume < ceiling then (.ok, volume + 1) else (.clamped, volume))
  else (if 0 < volume then (.ok, volume - 1) else (.clamped, volume))

/-- The verdict of the request's own check and its change of the field; none is UNAVAILABLE (R21 to R24). -/
def State.requestEffect (s : State) (p : Port) (i : Image) : PassengerRequest → Option (Verdict × Image)
  | .selectProgram none => some (.ok, { i with program := none })
  | .selectProgram (some c) =>
    if (s.programFeed c).state = .absent then none else some (.ok, { i with program := some c })
  | .setLanguage l => some (.ok, { i with language := l })
  | .setVolume v =>
    if v.val ≤ s.ceiling p i then some (.ok, { i with volume := v.val })
    else some (.clamped, { i with volume := s.ceiling p i })
  | .stepVolume up =>
    let r := stepVolume up i.volume (s.ceiling p i)
    some (r.1, { i with volume := r.2 })

/-- One passenger request, with its verdict (R20, R25): its field change and its activity are one claim. -/
def State.passenger (p : Port) (code value : Byte) (s : State) : Verdict × State :=
  match s.slots[p] with
  | none => (.vacant, s)
  | some b =>
    match passengerRequest code value with
    | none => (.invalid, s)
    | some q =>
      if q.lockedBy b.image.locked then (.locked, s)
      else
        match s.requestEffect p b.image q with
        | none => (.unavailable, s)
        | some (v, i) => (v, s.claim p true fun _ => i.active)

/-- The requests of one Response, in the order it carries them: their verdicts and the state they leave (R20). -/
def State.passengers (p : Port) : List (Byte × Byte) → State → List Verdict × State
  | [], s => ([], s)
  | q :: rest, s =>
    let a := s.passenger p q.1 q.2
    let b := a.2.passengers p rest
    (a.1 :: b.1, b.2)

/-- Step 6 of R159: the requests are handed over if the request number is new (10 R160). -/
def State.takeRequests (p : Port) (rep : UnitReport) (s : State) : State :=
  if s.ports[p].lastTaken = some rep.number then s
  else
    let a := s.passengers p rep.requests
    a.2.mapPort p fun r =>
      { r with lastTaken := some rep.number, verdicts := some { number := rep.number, verdicts := a.1 } }

end Sys2Proof.Machine
end

