-- ==== Sys2Proof/Machine/Polling.lean ====
section
/-! DEFINITION. The named operations of the Deck Pollers (spec/10 R150 to R161) and the delivery of presentations
(02 R43 to R45): choosing a port, starting a turn, and what the end of a turn does. -/

namespace Sys2Proof.Machine

open Sys2Proof

/-! ### What a normal Poll carries -/

/-- The version after the last-sent one: 1..255, and 255 is followed by 1 (02 R43). -/
def PortRec.nextVersion (r : PortRec) : Nat :=
  match r.lastSent with
  | none => 1
  | some v => if v.version = 255 then 1 else v.version + 1

/-- The Present directive of a normal Poll, by the table of 02 R44. -/
def PortRec.directive (r : PortRec) : Option Versioned :=
  match r.desired with
  | none => none
  | some d =>
    if r.acked.map Versioned.pres = some d then none
    else if r.lastSent.map Versioned.pres = some d then r.lastSent
    else some { version := r.nextVersion, pres := d }

/-- The port record after the decision (02 R44). -/
def PortRec.sent (r : PortRec) : PortRec :=
  match r.directive with
  | none => r
  | some v => { r with lastSent := some v }

/-- The kind of the turn to a polled port (R158). -/
def PortRec.turnKind (r : PortRec) : TurnKind := if r.state = .linking then .identify else .normal

/-- The Poll built from the port record as it stands (R158). -/
def PortRec.poll (p : Port) (r : PortRec) : Poll :=
  match r.turnKind with
  | .identify => .identify p
  | .normal => .normal p r.directive r.lastTaken (r.verdicts.elim [] HeldVerdicts.verdicts)

/-- The port record after the turn start. -/
def PortRec.polledOnce (r : PortRec) : PortRec :=
  match r.turnKind with
  | .identify => r
  | .normal => r.sent

/-! ### Choosing the next port (R151 to R155) -/

/-- The ports of a deck in the order of a search from a pointer, which wraps (R150). -/
def searchOrder (start : Fin 20) : List (Fin 20) := (List.finRange 20).map fun k => start + k

/-- The port is polled. -/
def State.polledAt (s : State) (d : Deck) (k : Fin 20) : Bool := s.ports[portOf d k].polled

/-- The port owes an acknowledgement of an announcement channel (R153, fourth condition). -/
def PortRec.owesAck (r : PortRec) : Bool :=
  decide (r.state = .active) &&
    r.desired.any fun d =>
      (match d.audio with
        | .announce _ => true
        | .silent => false
        | .program _ _ => false
        | .wake => false) && decide (r.acked.map Versioned.pres ≠ some d)

/-- A polled port belongs to the priority list (R153). -/
def State.prioritized (s : State) (p : Port) : Bool :=
  s.ports[p].crew || (s.image p).any (fun i => decide (i.state = .waking)) || s.callIn p .pending ||
    s.ports[p].owesAck

/-- A turn drawn from the priority list (R154). -/
def Poller.drawPriority (s : State) (d : Deck) (pl : Poller) : Option (Fin 20 × Poller) :=
  ((searchOrder pl.priority).find? fun k => s.polledAt d k && s.prioritized (portOf d k)).map fun k =>
    (k, { pl with priority := k + 1, next := .ordinary })

/-- A turn drawn from the ordinary list (R154). -/
def Poller.drawOrdinary (s : State) (d : Deck) (pl : Poller) : Option (Fin 20 × Poller) :=
  ((searchOrder pl.ordinary).find? fun k => s.polledAt d k && !s.prioritized (portOf d k)).map fun k =>
    (k, { pl with ordinary := k + 1, next := .priority })

/-- The port the mode in force chooses, and the poller with its pointer moved; none if there is no port (R152 to
R155). -/
def Poller.choose (s : State) (d : Deck) (pl : Poller) : Option (Fin 20 × Poller) :=
  match pl.mode with
  | .stopped => none
  | .round => ((searchOrder pl.round).find? (s.polledAt d)).map fun k => (k, { pl with round := k + 1 })
  | .priority =>
    match pl.next with
    | .priority => (pl.drawPriority s d).or (pl.drawOrdinary s d)
    | .ordinary => (pl.drawOrdinary s d).or (pl.drawPriority s d)
  | .singleSweep =>
    ((List.finRange 20).find? fun k => decide (pl.sweep ≤ k.val) && s.polledAt d k).map fun k =>
      (k, { pl with sweep := k.val + 1 })

/-- The end of a sweep at its poller (R155). -/
def Poller.endSweep (pl : Poller) : Poller :=
  { pl with mode := .stopped, round := 0, priority := 0, ordinary := 0, sweep := 0, next := .priority }

/-- SWEEP_DONE_L or SWEEP_DONE_U (R155). -/
def sweepKind : Deck → CoachKind
  | .lower => .sweepDoneL
  | .upper => .sweepDoneU

/-- The turn and the Poll of a poller that starts a turn to a port (R158). -/
def Poller.begin (p : Port) (r : PortRec) (timeout : Nat) (pl : Poller) : Poller :=
  { pl with
    turn := some { port := p, kind := r.turnKind, timerMs := timeout, discarded := false }
    poll := some (r.poll p) }

/-- A poller with no turn in flight starts its next turn, ends its sweep, or stays idle (R151, R155, R158). -/
def State.startTurn (d : Deck) (s : State) : State :=
  match (s.poller d).choose s d with
  | some (k, pl) =>
    let p := portOf d k
    (s.mapPort p PortRec.polledOnce).mapPoller d fun _ => pl.begin p s.ports[p] s.responseMs
  | none =>
    if (s.poller d).mode = .singleSweep then (s.mapPoller d Poller.endSweep).flagCoach (sweepKind d) else s

/-! ### Modes (R156) -/

/-- A mode takes effect. -/
def Poller.takeMode (m : PollMode) (pl : Poller) : Poller :=
  match m with
  | .stopped => { pl with mode := .stopped, pending := none }
  | .singleSweep => { pl with mode := .singleSweep, pending := none, sweep := 0 }
  | .round => { pl with mode := .round, pending := none }
  | .priority => { pl with mode := .priority, pending := none, next := .priority }

/-- The turn in flight ends, and a pending mode takes effect. -/
def Poller.endTurn (pl : Poller) : Poller :=
  match pl.pending with
  | none => { pl with turn := none }
  | some m => { pl with turn := none }.takeMode m

/-- The end of a turn, with the presentations it is chosen from recomputed, and the start of the next (R151). -/
def State.nextTurn (d : Deck) (s : State) : State := (s.refresh.mapPoller d Poller.endTurn).startTurn d

/-- SET_POLL_MODE at one deck (R156). -/
def State.setMode (m : PollMode) (d : Deck) (s : State) : State :=
  if (s.poller d).turn.isSome then s.mapPoller d fun pl => { pl with pending := some m }
  else (s.mapPoller d (Poller.takeMode m)).startTurn d

/-- An idle poller in ROUND or PRIORITY starts a turn when a port of its deck enters LINKING (R151). -/
def State.wakePoller (d : Deck) (s : State) : State :=
  let pl := s.poller d
  if pl.turn.isNone && (decide (pl.mode = .round) || decide (pl.mode = .priority)) then s.startTurn d else s

/-! ### The end of a turn (R158, R159) -/

/-- A turn whose result is not discarded ends as a miss (09 R144, R145). -/
def State.missTurn (t : Turn) (s : State) : State :=
  match t.kind with
  | .identify => s
  | .normal => s.mapPort t.port PortRec.miss

/-- The acknowledgement of a good Response (02 R45). -/
def PortRec.acknowledge (version : Option Nat) (r : PortRec) : PortRec :=
  match r.lastSent, version with
  | some v, some n => if v.version = n then { r with acked := some v } else r
  | _, _ => r

/-- Steps 1, 3 and 4 of R159 and the new baseline, on a port whose unit reports no fault (07 R113). -/
def PortRec.takeReport (rep : UnitReport) (r : PortRec) : PortRec :=
  { { r with misses := 0 }.acknowledge rep.version with
    headphones := rep.headphones, baseline := some rep.presses }

/-- A good Response to a NORMAL turn (R159). -/
def State.takeReport (p : Port) (rep : UnitReport) (s : State) : State :=
  if rep.fault then s.mapPort p fun r => { r with misses := 0 }.unitFailed
  else
    let n := newPresses s.ports[p].baseline rep.presses
    (((s.mapPort p (PortRec.takeReport rep)).presses p n).takeRequests p rep)

/-- A good Response to the turn in flight. -/
def State.takeGood (t : Turn) (rep : UnitReport) (s : State) : State :=
  match t.kind with
  | .identify => s.mapPort t.port (PortRec.identify rep)
  | .normal => s.takeReport t.port rep

/-- What the end of a turn does to the port and the berth: nothing if its result is discarded (R161). -/
def State.turnResult (t : Turn) (report : Option UnitReport) (s : State) : State :=
  if t.discarded then s
  else
    match report with
    | some rep => s.takeGood t rep
    | none => s.missTurn t

end Sys2Proof.Machine
end

