-- ==== Sys2Proof/Machine/Announcements.lean ====
section
/-! DEFINITION. The meanings of the announcement requests (spec/03 R51 to R53, R63 to R66) and of an announcement's timers
(04 R72, R75, R78). -/

namespace Sys2Proof.Machine

open Sys2Proof

/-- The record ANNOUNCE admits (03 R49, R52). -/
def AnnounceParams.ann (q : AnnounceParams) (target : Target) (owed : PortSet) : Ann :=
  Ann.asAdmitted owed
    { tag := q.tag, cls := q.cls, source := q.source, target := target, stop := q.stop, language := q.language
      leadIn := q.leadIn, chime := q.chime, duration := q.duration, budget := q.budget, gap := q.gap, number := 0#32
      state := .queued, channel := none, owed := [], audience := [], joined := [], admitted := 0, reached := 0
      withheld := 0, withdrawn := 0, left := 0, outcome := none, granted := false }

/-- ANNOUNCE as taken, into slot `h` (R52, R53). -/
def State.announce (q : AnnounceParams) (target : Target) (h : Handle) (s : State) : State :=
  s.atDesk fun env => Desk.enroll env h (q.ann target (env.owedSet target q.language))

/-- What the responses to ANNOUNCE and ALERT_RAISE say of a slot. -/
def State.admissionData (s : State) (h : Handle) : List (List Byte) :=
  match s.roster.rec? h with
  | some a => [bytes4 a.number.toNat, byteOf a.admitted, byteOf a.state.code]
  | none => []

/-- The state of a slot, or no byte if it is FREE. -/
def Roster.stateBytes (r : Roster) (h : Handle) : List Byte := optBytes (fun a : Ann => byteOf a.state.code) (r.rec? h)

/-- ANNOUNCE: BAD_PARAM, BAD_TARGET, ROSTER_FULL (R51), else the admission (R52, R53). -/
def execAnnounce (items : List Item) (s : State) : Answer :=
  match announceParams items with
  | none => refuse 0x20#8 .badParam s
  | some q =>
    match q.target.judge with
    | none => refuse 0x20#8 .badTarget s
    | some target =>
      match s.roster.freeSlot with
      | none => refuse 0x20#8 .rosterFull s
      | some h => accept 0x20#8 (fun t => byteOf h.val :: t.admissionData h) (s.announce q target h)

/-- END_ANNOUNCE in each live state (R63). -/
def Desk.endAnnounce (env : State) (h : Handle) (a : Ann) (d : Desk) : Desk :=
  match a.state with
  | .leadIn => (d.update h Ann.unjoin).endRepetition env h
  | .playing => d.endRepetition env h
  | .queued => (d.finish .ended h).scan env
  | .held => (d.finish .ended h).scan env
  | .gap => (d.finish .ended h).scan env
  | .done => d

/-- END_ANNOUNCE: BAD_PARAM, NOT_FOUND, WRONG_STATE in DONE, else R63. -/
def execEndAnnounce (items : List Item) (s : State) : Answer :=
  match oneHandle items with
  | none => refuse 0x21#8 .badParam s
  | some h =>
    match s.roster.rec? h with
    | none => refuse 0x21#8 .notFound s
    | some a =>
      if a.live then
        accept 0x21#8 (fun t => [t.roster.stateBytes h]) (s.atDesk fun env => Desk.endAnnounce env h a)
      else refuse 0x21#8 .wrongState s

/-- CANCEL_ANNOUNCE: BAD_PARAM, NOT_FOUND, WRONG_STATE in DONE, else DONE with CANCELLED, and the scan (R64). -/
def execCancelAnnounce (items : List Item) (s : State) : Answer :=
  match oneHandle items with
  | none => refuse 0x22#8 .badParam s
  | some h =>
    match s.roster.rec? h with
    | none => refuse 0x22#8 .notFound s
    | some a =>
      if a.live then accept 0x22#8 (fun _ => []) (s.atDesk fun env d => (d.finish .cancelled h).scan env)
      else refuse 0x22#8 .wrongState s

/-- RELEASE_ANNOUNCE: BAD_PARAM, NOT_FOUND, WRONG_STATE on a live record, else the slot is FREE (R65). -/
def execReleaseAnnounce (items : List Item) (s : State) : Answer :=
  match oneHandle items with
  | none => refuse 0x23#8 .badParam s
  | some h =>
    match s.roster.rec? h with
    | none => refuse 0x23#8 .notFound s
    | some a =>
      if a.live then refuse 0x23#8 .wrongState s
      else accept 0x23#8 (fun _ => []) { s with roster := s.roster.free h }

/-- LOOKUP_ANNOUNCE: the whole record (R66). -/
def execLookupAnnounce (items : List Item) (s : State) : Answer :=
  match oneHandle items with
  | none => refuse 0x24#8 .badParam s
  | some h =>
    match s.roster.rec? h with
    | none => refuse 0x24#8 .notFound s
    | some a => answer 0x24#8 (fun _ => [a.bytes h]) s

/-- LIST_ANNOUNCE: each of the 16 slots (R66), 16 data items (DEDUCED, log 5). -/
def execListAnnounce (items : List Item) (s : State) : Answer :=
  match noParams items with
  | none => refuse 0x25#8 .badParam s
  | some _ => answer 0x25#8 (fun t => allHandles.map fun h => optBytes Ann.summary (t.roster.rec? h)) s

/-- LEAD_IN_END: playout start with the joined set, or the accounting if the audience is empty (04 R72). -/
def Desk.leadInEnd (env : State) (h : Handle) (a : Ann) (d : Desk) : Desk :=
  if a.audience = [] then d.endRepetition env h else d.update h (Ann.startPlayout env.ports)

/-- The lead-in timer of a slot expires; there is one only in LEAD_IN (03 R54). -/
def execLeadInEnd (e : Expiry Handle) (s : State) : Answer :=
  unlessLate e s fun h =>
    match s.roster.rec? h with
    | none => .next s
    | some a =>
      if a.state = .leadIn then .next (s.atDesk fun env => Desk.leadInEnd env h a).settle else .next s

/-- The duration timer of a slot expires, in PLAYING: the playout ends (04 R75, R76). -/
def execDurationExpiry (e : Expiry Handle) (s : State) : Answer :=
  unlessLate e s fun h =>
    match s.roster.rec? h with
    | none => .next s
    | some a =>
      if a.state = .playing then .next (s.atDesk fun env => Desk.endRepetition env h).settle else .next s

/-- The record becomes QUEUED again (04 R78). -/
def Ann.requeue (a : Ann) : Ann := { a with state := .queued }

/-- The gap timer of a slot expires, in GAP: the record joins the wait list (04 R78). -/
def execGapExpiry (e : Expiry Handle) (s : State) : Answer :=
  unlessLate e s fun h =>
    match s.roster.rec? h with
    | none => .next s
    | some a =>
      if a.state = .gap then .next (s.atDesk fun env d => (d.update h Ann.requeue).join env h).settle else .next s

end Sys2Proof.Machine
end

