-- ==== Sys2Proof/Machine/Alert.lean ====
section
/-! DEFINITION. The meanings of the Alert Unit's requests and of a change of ALERT_IN (spec/08 R126 to R134). -/

namespace Sys2Proof.Machine

open Sys2Proof

/-- The alert state is changed. -/
def State.alertTo (st : AlertState) (s : State) : State := { s with alert := { s.alert with state := st } }

/-- A NIGHT berth becomes AWAKE, and idle stays no (R130). -/
def Image.rouse (i : Image) : Image := if i.state = .night then { i with state := .awake } else i

/-- Alert entry (R129): the state and the coach event, the berth claims with the timers stopped, and slot 15. -/
def State.alertEntry (s : State) : State :=
  (((s.alertTo .active).flagCoach .alert).claimAll fun _ => Image.rouse).atDesk Desk.alertEntry

/-- The edge from the other level to this one is selected (R127). -/
def EdgeSelection.selects (e : EdgeSelection) (level : Level) : Bool :=
  match e, level with
  | .none, _ => false
  | .falling, .low => true
  | .falling, .high => false
  | .rising, .low => false
  | .rising, .high => true
  | .both, _ => true

/-- The last filtered level of ALERT_IN. -/
def State.alertLevel (level : Level) (s : State) : State := { s with alert := { s.alert with level := level } }

/-- ALERT_IN takes a level: a change is an edge, and a selected edge outside ACTIVE is alert entry (R127). -/
def execAlertInEdge (level : Level) (s : State) : Answer :=
  if level = s.alert.level then .next s
  else if s.alert.config.edge.selects level ∧ s.alert.state ≠ .active then
    .next ((s.alertLevel level).alertEntry).settle
  else .next (s.alertLevel level)

/-- Slot 15 holds a live record: alert entry will re-arm it (R129). -/
def State.rearms (s : State) : Bool := s.roster.test Ann.live alertSlot

/-- ALERT_RAISE: ALREADY in ACTIVE, else alert entry (R128). Whether slot 15 was freshly admitted or re-armed is answered
as 0 or 1 (DEDUCED, log 5). -/
def execAlertRaise (items : List Item) (s : State) : Answer :=
  match noParams items with
  | none => refuse 0x60#8 .badParam s
  | some _ =>
    if s.alert.state = .active then refuse 0x60#8 .already s
    else
      accept 0x60#8
        (fun t =>
          [byteOf t.alert.state.code, flagByte s.rearms, t.roster.stateBytes alertSlot] ++
            (t.admissionData alertSlot).take 2)
        s.alertEntry

/-- ALERT_CLEAR: ACTIVE to RELEASED (R133). -/
def execAlertClear (items : List Item) (s : State) : Answer :=
  match noParams items with
  | none => refuse 0x61#8 .badParam s
  | some _ =>
    if s.alert.state = .active then
      accept 0x61#8 (fun t => [byteOf t.alert.state.code]) (s.alertTo .released)
    else refuse 0x61#8 .wrongState s

/-- The inactivity timer of a berth at RESUME (R134, 05 R97). -/
def Berth.resume (load : Reload) (b : Berth) : Berth :=
  { b with timer := nextTimer false (b.image.runs .clear) false load b.timer }

/-- RESUME as taken (R134). -/
def State.resume (s : State) : State := (s.alertTo .clear).mapBerths fun _ => Berth.resume s.policy.load

/-- RESUME: ALERT_ACTIVE in ACTIVE, WRONG_STATE in CLEAR, else RELEASED to CLEAR (R134). -/
def execResume (items : List Item) (s : State) : Answer :=
  match noParams items with
  | none => refuse 0x62#8 .badParam s
  | some _ =>
    match s.alert.state with
    | .active => refuse 0x62#8 .alertActive s
    | .clear => refuse 0x62#8 .wrongState s
    | .released => accept 0x62#8 (fun t => [byteOf t.alert.state.code]) s.resume

/-- The named values applied to a copy of the configuration (R126). -/
def AlertChange.apply (c : AlertChange) (a : AlertConfig) : AlertConfig :=
  { edge := c.edge.getD a.edge
    source := c.source.getD a.source
    budget := c.budget.getD a.budget
    gap := c.gap.getD a.gap
    duration := c.duration.getD a.duration }

/-- Source MIC with a repeat budget above 0 (R126). -/
def AlertConfig.repeatsMic (a : AlertConfig) : Bool := decide (a.source = .mic) && decide (0 < a.budget)

/-- SET_ALERT_CONFIG (R126). -/
def execSetAlertConfig (items : List Item) (s : State) : Answer :=
  match alertParams items with
  | none => refuse 0x63#8 .badParam s
  | some c =>
    if (c.apply s.alert.config).repeatsMic then refuse 0x63#8 .badParam s
    else
      accept 0x63#8 (fun t => [t.alert.config.bytes])
        { s with alert := { s.alert with config := c.apply s.alert.config } }

/-- READ_ALERT: state, configuration, level and the state of slot 15 (R126). -/
def execReadAlert (items : List Item) (s : State) : Answer :=
  match noParams items with
  | none => refuse 0x64#8 .badParam s
  | some _ =>
    answer 0x64#8
      (fun t =>
        [byteOf t.alert.state.code, t.alert.config.bytes, byteOf (levelCode t.alert.level),
          t.roster.stateBytes alertSlot]) s

end Sys2Proof.Machine
end

