-- ==== Sys2Proof/Machine/BerthTable.lean ====
section
/-! DEFINITION. The meanings of the Berth Table's requests (spec/01 R8 to R19). -/

namespace Sys2Proof.Machine

open Sys2Proof

/-- OPEN_BERTH as taken (R9). -/
def State.openBerth (q : OpenParams) (s : State) : State :=
  s.putSlots (s.slots.set q.port.val (some (q.berth s.alert.state s.policy.load)))

/-- OPEN_BERTH: BAD_PARAM, OCCUPIED, DUPLICATE (R8), else the open (R9). -/
def execOpenBerth (items : List Item) (s : State) : Answer :=
  match openParams items with
  | none => refuse 0x10#8 .badParam s
  | some q =>
    if s.isOpen q.port then refuse 0x10#8 .occupied s
    else if (s.portOfRef q.ref).isSome then refuse 0x10#8 .duplicate s
    else accept 0x10#8 (fun t => [slotBytes t.slots[q.port]]) (s.openBerth q)

/-- The change set names the stop or the lead of a ringing wake call (R11, R15). -/
def Changes.meetsRinging (c : Changes) (i : Image) : Bool := c.namesWake && i.wake.ringing

/-- AMEND_BERTH as taken (R12). -/
def State.amendBerth (q : AmendParams) (s : State) : State := s.claim q.port false q.changes.apply

/-- AMEND_BERTH: BAD_PARAM, NOT_OPEN, STALE with the current generation, WAKING (R11, R15), else the amend (R12). -/
def execAmendBerth (items : List Item) (s : State) : Answer :=
  match amendParams items with
  | none => refuse 0x11#8 .badParam s
  | some q =>
    match s.image q.port with
    | none => refuse 0x11#8 .notOpen s
    | some i =>
      if q.expected.any (· != i.generation) then .next (s.respond 0x11#8 .stale [[i.generation]])
      else if q.changes.meetsRinging i then refuse 0x11#8 .waking s
      else accept 0x11#8 (fun t => [slotBytes t.slots[q.port]]) (s.amendBerth q)

/-- RETIRE_BERTH as taken: the hand-offs of R16, with a waiting profile copy made if this was the last ramp (06 R102). -/
def State.retireBerth (p : Port) (s : State) : State :=
  (((s.putSlots (s.slots.set p.val none)).atDesk fun env => Desk.retire env p).dropCall p).copyIfIdle

/-- RETIRE_BERTH: BAD_PARAM, NOT_OPEN, STALE with the current generation (R14), else the retire (R16). -/
def execRetireBerth (items : List Item) (s : State) : Answer :=
  match retireParams items with
  | none => refuse 0x12#8 .badParam s
  | some q =>
    match s.image q.port with
    | none => refuse 0x12#8 .notOpen s
    | some i =>
      if q.expected.any (· != i.generation) then .next (s.respond 0x12#8 .stale [[i.generation]])
      else accept 0x12#8 (fun _ => []) (s.retireBerth q.port)

/-- LOOKUP_BERTH: the image, or the vacant marker (R18). -/
def execLookupBerth (items : List Item) (s : State) : Answer :=
  match onePort items with
  | none => refuse 0x13#8 .badParam s
  | some p => answer 0x13#8 (fun t => [slotBytes t.slots[p]]) s

/-- FIND_OCCUPANT: the port whose open record holds the reference, or NOT_FOUND (R19). -/
def execFindOccupant (items : List Item) (s : State) : Answer :=
  match findParams items with
  | none => refuse 0x14#8 .badParam s
  | some ref =>
    match s.portOfRef ref with
    | none => refuse 0x14#8 .notFound s
    | some p => answer 0x14#8 (fun _ => [byteOf p.val]) s

/-- LIST_OCCUPIED: the marks of the OPEN slots, and their number (R19). -/
def execListOccupied (items : List Item) (s : State) : Answer :=
  match noParams items with
  | none => refuse 0x15#8 .badParam s
  | some _ =>
    answer 0x15#8 (fun t => [marksBytes (portMarks t.openPorts), byteOf t.openPorts.length]) s

end Sys2Proof.Machine
end

