-- ==== Sys2Proof/Machine/Calls.lean ====
section
/-! DEFINITION. The meanings of the Button and Call Unit's requests, of the expiry of a double-press window and of a second
of the coach clock (spec/07 R115, R118, R119, R122, R123). -/

namespace Sys2Proof.Machine

open Sys2Proof

/-- SET_BUTTON_WINDOW (R115). -/
def execSetButtonWindow (items : List Item) (s : State) : Answer :=
  match windowParams items with
  | none => refuse 0x50#8 .badParam s
  | some ms => accept 0x50#8 (fun t => [bytes2 t.windowMs]) { s with windowMs := ms }

/-- CALL_NEXT: the oldest PENDING entry (R122). -/
def execCallNext (items : List Item) (s : State) : Answer :=
  match noParams items with
  | none => refuse 0x51#8 .badParam s
  | some _ =>
    answer 0x51#8 (fun t => [optBytes Call.bytes (t.calls.find? fun c => decide (c.state = .pending))]) s

/-- CALL_LIST: the number of entries, and at most 16 from the start position (R122). -/
def execCallList (items : List Item) (s : State) : Answer :=
  match callListParams items with
  | none => refuse 0x52#8 .badParam s
  | some start =>
    answer 0x52#8
      (fun t => byteOf t.calls.length :: ((t.calls.drop start).take Config.callListLimit).map Call.bytes) s

/-- The port's entry becomes ATTENDED (R123). -/
def State.attendCall (p : Port) (s : State) : State :=
  { s with calls := s.calls.map fun c => if c.port = p then { c with state := .attended } else c }

/-- CALL_ATTEND: BAD_PARAM, NOT_FOUND, WRONG_STATE, else ATTENDED (R123). -/
def execCallAttend (items : List Item) (s : State) : Answer :=
  match onePort items with
  | none => refuse 0x53#8 .badParam s
  | some p =>
    match s.callOf p with
    | none => refuse 0x53#8 .notFound s
    | some c =>
      if c.state = .attended then refuse 0x53#8 .wrongState s
      else accept 0x53#8 (fun t => [optBytes Call.bytes (t.callOf p)]) (s.attendCall p)

/-- CALL_CLOSE: BAD_PARAM, NOT_FOUND, else the entry is removed, and returned as it stood (R123). -/
def execCallClose (items : List Item) (s : State) : Answer :=
  match onePort items with
  | none => refuse 0x54#8 .badParam s
  | some p =>
    match s.callOf p with
    | none => refuse 0x54#8 .notFound s
    | some c => accept 0x54#8 (fun _ => [c.bytes]) (s.dropCall p)

/-- The button of a berth is ARMED: its window runs. -/
def Button.isArmed : Button → Bool
  | .idle => false
  | .armed _ => true

/-- The window of a port expires: the button returns to IDLE and a PASSENGER call is raised (R118). -/
def State.endWindow (p : Port) (s : State) : State :=
  (s.mapBerth p fun b => { b with button := .idle }).raiseCall p .passenger

/-- A running double-press window expires (R118). -/
def execWindowExpiry (e : Expiry Port) (s : State) : Answer :=
  unlessLate e s fun p =>
    if s.slots[p].any fun b => b.button.isArmed then .next (s.endWindow p).settle else .next s

/-- The coach clock advances by one second, modulo 2^32 (R119). -/
def execCoachClockTick (s : State) : Answer := .next { s with clock := s.clock + 1#32 }

end Sys2Proof.Machine
end

