-- ==== Sys2Proof/Machine/CommandPort.lean ====
section
/-! DEFINITION. The meanings of the resets, of the transfers of the SPI command port, and of the Event Aggregator's and
Digest Unit's requests (spec/12 R170 to R179). -/

namespace Sys2Proof.Machine

open Sys2Proof

/-! ### Resets -/

/-- Power-on reset, with the levels standing on the input lines when it ends (R174). -/
def execPowerOnReset (pins : Pins) (s : State) : Answer := .next (s.afterReset pins)

/-- PART_RESET: the power-on reset state, and no response (R174); taken whatever items it carries (log 9). -/
def execPartReset (_items : List Item) (s : State) : Answer := .next (s.afterReset s.pins)

/-- A port record across TRIP_RESET (09 R139): the flags of the trip kinds and the held verdicts go (R175, 01 R26). -/
def PortRec.tripped (r : PortRec) : PortRec := { r with flags := r.flags &&& ~~~tripMarks, verdicts := none }

/-- TRIP_RESET as taken (R175, 01 R27, 03 R48, 06 R112). -/
def State.tripReset (s : State) : State :=
  { s with
    slots := Vector.replicate 40 none
    roster := { Roster.atReset with counter := s.roster.counter }
    calls := []
    ports := s.ports.map PortRec.tripped
    digest := s.digest.startWalk }.copyIfIdle

/-- TRIP_RESET: ALERT_ACTIVE unless the alert is CLEAR, else the trip reset (R175). -/
def execTripReset (items : List Item) (s : State) : Answer :=
  match noParams items with
  | none => refuse 0x91#8 .badParam s
  | some _ =>
    if s.alert.state = .clear then accept 0x91#8 (fun _ => []) s.tripReset else refuse 0x91#8 .alertActive s

/-! ### Transfers -/

/-- A request write that cannot be parsed is refused BAD_REQUEST and reaches no block (R170); the response answers the
first byte, a free value if there is none (log 1). -/
def execBadRequest (frame : List Byte) (s : State) : Answer :=
  if isBadRequest frame then
    match frame with
    | [] => refuse (Config.freeByte s.free) .badRequest (s.useFree 1)
    | code :: _ => refuse code .badRequest s
  else .refused .otherCommand

/-- The frame a response read finds: the held response, or the empty frame (R171, 13 R181). -/
def State.readFrame (s : State) : List Byte := s.reply.elim emptyFrame Reply.frame

/-- A response read of `n` bytes: a response clocked out whole is consumed; bytes past its end are free values (R171,
log 1). -/
def execResponseRead (n : Nat) (s : State) : Answer :=
  let frame := s.readFrame
  let past := n - frame.length
  .next
    { s.useFree past with
      miso := frame.take n ++ (List.range past).map fun k => Config.freeByte (s.free + k)
      reply := if frame.length ≤ n then none else s.reply }

/-! ### Events (R176, R177) -/

/-- The 26 enables, one item each, in the order of the request's fields (log 5). -/
def Events.enableData (e : Events) : List (List Byte) :=
  (List.range 10).map (fun k => flagByte (e.berthEnables.getLsbD k)) ++
    (List.range 8).map (fun k => flagByte (e.coachEnables.getLsbD k)) ++
    (List.range 8).map (fun k => flagByte (e.zoneEnables.getLsbD k))

/-- Every named enable changes (R177). -/
def EnableParams.apply (q : EnableParams) (e : Events) : Events :=
  { e with
    berthEnables := q.berth.apply e.berthEnables
    coachEnables := q.coach.apply e.coachEnables
    zoneEnables := q.zone.apply e.zoneEnables }

/-- SET_EVENT_ENABLES (R177). -/
def execSetEventEnables (items : List Item) (s : State) : Answer :=
  match enableParams items with
  | none => refuse 0x92#8 .badParam s
  | some q => accept 0x92#8 (fun t => t.events.enableData) { s with events := q.apply s.events }

/-- The marks of the pending zones. -/
def State.zoneMarks (s : State) : BitVec 8 :=
  (List.finRange 8).foldl (fun v z => if s.zonePending z then v ||| 1#8 <<< z.val else v) 0#8

/-- READ_SUMMARY: pending zones, pending ports, coach flags (R177). -/
def execReadSummary (items : List Item) (s : State) : Answer :=
  match noParams items with
  | none => refuse 0x93#8 .badParam s
  | some _ =>
    answer 0x93#8
      (fun t => [marksBytes t.zoneMarks, marksBytes (portMarks (allPorts.filter t.portPending)),
        marksBytes t.events.coach]) s

/-- READ_BERTH_EVENTS: the port's flags and zone (R176). -/
def execReadBerthEvents (items : List Item) (s : State) : Answer :=
  match onePort items with
  | none => refuse 0x94#8 .badParam s
  | some p => answer 0x94#8 (fun t => [marksBytes t.ports[p].flags, byteOf t.ports[p].zone.val]) s

/-- The named flags of a port become clear (R176). -/
def PortRec.ack (kinds : BitVec 10) (r : PortRec) : PortRec := { r with flags := r.flags &&& ~~~kinds }

/-- ACK_BERTH_EVENTS (R176). -/
def execAckBerthEvents (items : List Item) (s : State) : Answer :=
  match ackBerthParams items with
  | none => refuse 0x95#8 .badParam s
  | some q =>
    accept 0x95#8 (fun t => [marksBytes t.ports[q.port].flags]) (s.mapPort q.port (PortRec.ack q.kinds))

/-- The named coach flags become clear (R176). -/
def Events.ack (kinds : BitVec 8) (e : Events) : Events := { e with coach := e.coach &&& ~~~kinds }

/-- ACK_COACH_EVENTS (R176). -/
def execAckCoachEvents (items : List Item) (s : State) : Answer :=
  match ackCoachParams items with
  | none => refuse 0x96#8 .badParam s
  | some kinds =>
    accept 0x96#8 (fun t => [marksBytes t.events.coach]) { s with events := s.events.ack kinds }

/-! ### The digest (R178, R179) -/

/-- The named settings change, and a walk starts (R179). -/
def DigestChange.apply (c : DigestChange) (d : Digest) : Digest :=
  { d with poly := c.poly.getD d.poly, order := c.order.getD d.order }.startWalk

/-- SET_DIGEST (R179); the polynomial is answered before the bit order (DEDUCED, log 5). -/
def execSetDigest (items : List Item) (s : State) : Answer :=
  match digestParams items with
  | none => refuse 0x97#8 .badParam s
  | some c =>
    accept 0x97#8 (fun t => [byteOf t.digest.poly.code, byteOf t.digest.order.code])
      { s with digest := c.apply s.digest }

/-- READ_DIGEST (R179). -/
def execReadDigest (items : List Item) (s : State) : Answer :=
  match noParams items with
  | none => refuse 0x98#8 .badParam s
  | some _ =>
    answer 0x98#8
      (fun t => [bytes2 t.digest.settled.toNat, byteOf t.digest.poly.code, byteOf t.digest.order.code,
        flagByte t.digest.walk.isSome]) s

/-- The walk in progress passes slot 39 (R178). -/
def execWalkComplete (s : State) : Answer :=
  match s.digest.walk with
  | none => .next s
  | some w =>
    .next ({ s with digest := { s.digest with settled := w.crc s.slots, walk := none } }.flagCoach
      .digestSettled).settle

end Sys2Proof.Machine
end

