-- ==== Sys2Proof/Machine/DeckBus.lean ====
section
/-! DEFINITION. The meanings of the Deck Pollers' requests, of a frame received on a deck bus and of the expiry of a
response timer (spec/10 R156 to R161). -/

namespace Sys2Proof.Machine

open Sys2Proof

/-- The decks a choice names. -/
def DeckChoice.decks : DeckChoice → List Deck
  | .lower => [.lower]
  | .upper => [.upper]
  | .both => [.lower, .upper]

/-- The mode in force and the pending mode of a deck. -/
def State.modeData (s : State) (d : Deck) : List (List Byte) :=
  [byteOf (s.poller d).mode.code, optBytes (fun m => byteOf (PollMode.code m)) (s.poller d).pending]

/-- SET_POLL_MODE at each deck it names (R156); BOTH answers the two items of L, then those of U (DEDUCED, log 5). -/
def execSetPollMode (items : List Item) (s : State) : Answer :=
  match pollModeParams items with
  | none => refuse 0x80#8 .badParam s
  | some q =>
    accept 0x80#8 (fun t => q.decks.decks.flatMap t.modeData) (q.decks.decks.foldl (fun t d => t.setMode q.mode d) s)

/-- SET_POLL_TIMEOUT (R157). -/
def execSetPollTimeout (items : List Item) (s : State) : Answer :=
  match pollTimeoutParams items with
  | none => refuse 0x81#8 .badParam s
  | some ms => accept 0x81#8 (fun t => [byteOf t.responseMs]) { s with responseMs := ms }

/-- The first port of a deck. -/
def deckBase : Deck → Nat
  | .lower => 0
  | .upper => 20

/-- Every item of R150 of a deck: ports by their numbers, the sweep position past the last as the number after it, and the
turn in flight as one data item of two bytes, its port and its kind (DEDUCED, log 5). -/
def Poller.data (d : Deck) (pl : Poller) : List (List Byte) :=
  [byteOf pl.mode.code, optBytes (fun m => byteOf (PollMode.code m)) pl.pending, byteOf (deckBase d + pl.round.val),
    byteOf (deckBase d + pl.priority.val), byteOf (deckBase d + pl.ordinary.val), byteOf pl.next.code,
    byteOf (deckBase d + pl.sweep),
    optBytes (fun t : Turn => byteOf t.port.val ++ byteOf (turnKindCode t.kind)) pl.turn]

/-- READ_POLL: every item of R150 and the response timeout (R157). -/
def execReadPoll (items : List Item) (s : State) : Answer :=
  match readPollParams items with
  | none => refuse 0x82#8 .badParam s
  | some d => answer 0x82#8 (fun t => (t.poller d).data d ++ [byteOf t.responseMs]) s

/-- The turn in flight of a deck ends with a good Response or, at none, as a failed one; then the next turn starts
(R158, R161). -/
def State.finishTurn (d : Deck) (t : Turn) (report : Option UnitReport) (s : State) : State :=
  ((s.turnResult t report).nextTurn d).settle

/-- A frame received on a deck bus: it ends the turn in flight as good or as a miss; with no turn in flight, or when the
turn it answers has ended, it is ignored (R158). -/
def execResponse (d : Deck) (late : Bool) (frame : List Byte) (s : State) : Answer :=
  if late then .next s
  else
    match (s.poller d).turn with
    | none => .next s
    | some t => .next (s.finishTurn d t (readReport t.kind t.port frame))

/-- The response timer of a deck expires with no Response received: the turn ends as a miss; an expiry whose turn a Response
has ended is not taken (R158). -/
def execResponseTimerExpiry (e : Expiry Deck) (s : State) : Answer :=
  unlessLate e s fun d =>
    match (s.poller d).turn with
    | none => .next s
    | some t => .next (s.finishTurn d t none)

end Sys2Proof.Machine
end

