-- ==== Sys2Proof/Machine/Feeds.lean ====
section
/-! DEFINITION. The meanings of the Feed Intake's requests, of frames on the media input port and of the expiry of a stall
timer (spec/11 R163 to R168). -/

namespace Sys2Proof.Machine

open Sys2Proof

/-- One feed record is changed. -/
def State.mapFeed (f : FeedIx) (g : Feed → Feed) (s : State) : State :=
  { s with feeds := s.feeds.set f.val (g s.feeds[f]) }

/-- The source a feed is, if it is an announcement feed (R163). -/
def feedSource (f : FeedIx) : Option Source :=
  if f.val = 12 then some .n0 else if f.val = 13 then some .n1 else none

/-- A playout from the feed ends, if a record is PLAYING from it (R167; 04 R75, R77). -/
def State.endPlayout (f : FeedIx) (reach : Bool) (s : State) : State :=
  match feedSource f with
  | none => s
  | some src => s.atDesk fun env => Desk.endPlayoutFrom env src reach

/-- A descriptor on a feed: an ABSENT feed becomes WAITING, another keeps its state and timer (R164). -/
def Feed.configure (d : Descriptor) (r : Feed) : Feed :=
  { r with state := if r.state = .absent then .waiting else r.state, desc := some d }

/-- A feed record: state and, if it has one, descriptor (R164); the running stall timer is no part of it (DEDUCED,
log 5). -/
def Feed.bytes (r : Feed) : List Byte := byteOf r.state.code ++ optBytes Descriptor.bytes r.desc

/-- CONFIGURE_FEED (R164). -/
def execConfigureFeed (items : List Item) (s : State) : Answer :=
  match feedParams items with
  | none => refuse 0x88#8 .badParam s
  | some q => accept 0x88#8 (fun t => [t.feeds[q.feed].bytes]) (s.mapFeed q.feed (Feed.configure q.desc))

/-- UNCONFIGURE_FEED: BAD_PARAM, WRONG_STATE if ABSENT, else ABSENT, and a playout from it reaches nobody (R164). -/
def execUnconfigureFeed (items : List Item) (s : State) : Answer :=
  match oneFeed items with
  | none => refuse 0x89#8 .badParam s
  | some f =>
    if s.feeds[f].state = .absent then refuse 0x89#8 .wrongState s
    else accept 0x89#8 (fun _ => []) ((s.mapFeed f fun _ => Feed.atReset).endPlayout f false)

/-- FEED_QUERY of one feed: the remaining time of a running stall timer is a free value (R168, log 1); the descriptor is one
data item (DEDUCED, log 5). -/
def State.feedData (s : State) (f : FeedIx) : List (List Byte) :=
  [byteOf s.feeds[f].state.code, optBytes Descriptor.bytes s.feeds[f].desc, bytes2 s.stallMs,
    optBytes bytes2 (s.feeds[f].timer.map fun ms => freeRemaining s.free ms)]

/-- FEED_QUERY of one feed or of all (R168); ALL answers 14 data items of one byte (DEDUCED, log 5). -/
def execFeedQuery (items : List Item) (s : State) : Answer :=
  match feedQueryParams items with
  | none => refuse 0x8A#8 .badParam s
  | some none => answer 0x8A#8 (fun t => allFeeds.map fun f => byteOf t.feeds[f].state.code) s
  | some (some f) => answer 0x8A#8 (fun _ => s.feedData f) (s.useFree 1)

/-- SET_FEED_STALL (R163). -/
def execSetFeedStall (items : List Item) (s : State) : Answer :=
  match stallParams items with
  | none => refuse 0x8B#8 .badParam s
  | some ms => accept 0x8B#8 (fun t => [bytes2 t.stallMs]) { s with stallMs := ms }

/-- The lane channel on which the feed's media goes out (R168). -/
def State.mediaChannel (s : State) (f : FeedIx) : Option Nat :=
  match feedSource f with
  | none => some f.val
  | some src =>
    (((s.roster.playingFrom src).bind s.roster.rec?).bind Ann.channel).map fun c => 12 + c.val

/-- A good DATA frame on a feed that is not ABSENT (R165). -/
def State.dataTaken (g : FeedFrame) (s : State) : State :=
  let s' := s.mapFeed g.feed fun r => { r with state := .active, timer := some s.stallMs }
  let s'' := if s.feeds[g.feed].state = .stalled then s'.flagCoach .feedResumed else s'
  { s'' with media := some { feed := g.feed, channel := s''.mediaChannel g.feed, payload := g.payload } }

/-- A good END frame: an ACTIVE feed becomes WAITING and a playout from it ends with its joined berths reached; any other
feed is left as it is (R167). -/
def State.endTaken (g : FeedFrame) (s : State) : State :=
  if s.feeds[g.feed].state = .active then
    (s.mapFeed g.feed fun r => { r with state := .waiting, timer := none }).endPlayout g.feed true
  else s

/-- A frame on the media input port; one that is not good, or is for an ABSENT feed, is dropped (R165). -/
def State.mediaFrame (bytes : List Byte) (s : State) : State :=
  match readFeedFrame bytes with
  | none => s
  | some g =>
    if s.feeds[g.feed].state = .absent then s
    else
      match g.kind with
      | .data => (s.dataTaken g).settle
      | .endOfItem => (s.endTaken g).settle

/-- A DATA frame (R165). -/
def execDataFrame (bytes : List Byte) (s : State) : Answer := .next (s.mediaFrame bytes)

/-- An END frame (R167). -/
def execEndFrame (bytes : List Byte) (s : State) : Answer := .next (s.mediaFrame bytes)

/-- The stall of a feed (R166). -/
def State.stallFeed (f : FeedIx) (s : State) : State :=
  ((s.mapFeed f fun r => { r with state := .stalled, timer := none }).flagCoach .feedStalled).endPlayout f false

/-- The stall timer of a feed expires; only an ACTIVE feed has one (R166). An expiry whose timer a DATA frame taken first
has loaded afresh is no stall (R169). -/
def execStallTimerExpiry (e : Expiry FeedIx) (s : State) : Answer :=
  unlessLate e s fun f =>
    if s.feeds[f].timer.isSome then .next (s.stallFeed f).settle else .next s

end Sys2Proof.Machine
end

