-- ==== Sys2Proof/Machine/NightPolicy.lean ====
section
/-! DEFINITION. The meanings of the Night Policy Unit's requests (spec/05 R87, R89, R94, R95) and of the expiry of an
inactivity timer (R92). -/

namespace Sys2Proof.Machine

open Sys2Proof

/-- Every named setting takes its new value (R87). -/
def PolicyChange.apply (c : PolicyChange) (p : Policy) : Policy :=
  { dayCeiling := c.dayCeiling.getD p.dayCeiling
    quietCeiling := c.quietCeiling.getD p.quietCeiling
    speakerCeiling := c.speakerCeiling.getD p.speakerCeiling
    safetyGain := c.safetyGain.getD p.safetyGain
    alertGain := c.alertGain.getD p.alertGain
    reload := c.reload.getD p.reload
    unit := c.unit.getD p.unit
    driverNight := c.driverNight.getD p.driverNight }

/-- The quiet mode and the eight settings, one data item each (R87, R89; DEDUCED, log 5). -/
def State.policyData (s : State) : List (List Byte) := byteOf s.quiet.code :: s.policy.data

/-- SET_POLICY (R87, R88). -/
def execSetPolicy (items : List Item) (s : State) : Answer :=
  match policyParams items with
  | none => refuse 0x30#8 .badParam s
  | some c => accept 0x30#8 State.policyData { s with policy := c.apply s.policy }

/-- READ_POLICY (R89). -/
def execReadPolicy (items : List Item) (s : State) : Answer :=
  match noParams items with
  | none => refuse 0x31#8 .badParam s
  | some _ => answer 0x31#8 State.policyData s

/-- SET_QUIET(QUIET) moves the berth to NIGHT (R94). -/
def Image.dozing (i : Image) : Bool := decide (i.state = .awake) && i.idle

/-- The ports whose open record satisfies a test. -/
def State.portsWhere (s : State) (f : Image → Bool) : PortSet := allPorts.filter fun p => (s.image p).any f

/-- The open berths that satisfy a test go to NIGHT, one claim each. -/
def State.sleepWhere (f : Image → Bool) (s : State) : State :=
  s.claimAll fun _ i => if f i then i.toNight else i

/-- SET_QUIET as taken (R94). -/
def State.setQuiet (m : QuietMode) (s : State) : State :=
  match m with
  | .quiet => { s with quiet := .quiet }.sleepWhere Image.dozing
  | .day => { s with quiet := .day }

/-- The number of berths SET_QUIET moves. -/
def State.quietMoves (m : QuietMode) (s : State) : Nat :=
  match m with
  | .quiet => (s.portsWhere Image.dozing).length
  | .day => 0

/-- SET_QUIET (R94). -/
def execSetQuiet (items : List Item) (s : State) : Answer :=
  match quietParams items with
  | none => refuse 0x32#8 .badParam s
  | some m => accept 0x32#8 (fun t => [byteOf t.quiet.code, byteOf (s.quietMoves m)]) (s.setQuiet m)

/-- The berth is AWAKE. -/
def Image.isAwake (i : Image) : Bool := decide (i.state = .awake)

/-- LIGHTS_OUT: ALERT_ACTIVE, WRONG_MODE, else every AWAKE berth goes to NIGHT (R95). -/
def execLightsOut (items : List Item) (s : State) : Answer :=
  match noParams items with
  | none => refuse 0x33#8 .badParam s
  | some _ =>
    if s.alert.state ≠ .clear then refuse 0x33#8 .alertActive s
    else if s.quiet = .day then refuse 0x33#8 .wrongMode s
    else
      accept 0x33#8 (fun _ => [byteOf (s.portsWhere Image.isAwake).length]) (s.sleepWhere Image.isAwake)

/-- What an expiry makes of the record: idle in DAY, NIGHT in QUIET (R92). -/
def Image.expire (m : QuietMode) (i : Image) : Image :=
  match m with
  | .day => { i with idle := true }
  | .quiet => i.toNight

/-- A RUNNING inactivity timer expires (R92); one loaded afresh by an activity taken first does not (R93). -/
def execInactivityExpiry (e : Expiry Port) (s : State) : Answer :=
  unlessLate e s fun p =>
    if (s.slots[p].bind Berth.timer).isSome then .next (s.claim p false (Image.expire s.quiet)).settle else .next s

end Sys2Proof.Machine
end

