-- ==== Sys2Proof/Machine/PortControl.lean ====
section
/-! DEFINITION. The meanings of the Port Controller's requests and of a port's sense lines and timers (spec/09 R140 to
R148). -/

namespace Sys2Proof.Machine

open Sys2Proof

/-- The effect of an accepted PORT_POWER, by the table of R142. -/
def State.portPower (q : PowerParams) (s : State) : State :=
  let r := s.ports[q.port]
  match q.value with
  | .on => if r.polled then s.mapPort q.port (PortRec.doneAtOnce .on) else s.powerOn q.port
  | .off => if r.polled then s.dropPort q.port PortRec.powerOff else s.mapPort q.port (PortRec.doneAtOnce .off)

/-- The power request, the outcome of a command completed at once, and else the command in flight (R142; log 5). -/
def PortRec.powerData (r : PortRec) : List (List Byte) :=
  [byteOf r.request.code,
    if r.command.isSome then [] else optBytes (fun o => byteOf (CommandOutcome.code o)) r.outcome,
    optBytes (fun c => byteOf (PowerCommand.code c)) r.command]

/-- PORT_POWER: BAD_PARAM, PORT_BUSY, WRONG_STATE in EMPTY, else the command is accepted (R142). -/
def execPortPower (items : List Item) (s : State) : Answer :=
  match powerParams items with
  | none => refuse 0x70#8 .badParam s
  | some q =>
    if s.ports[q.port].command.isSome then refuse 0x70#8 .portBusy s
    else if s.ports[q.port].state = .empty then refuse 0x70#8 .wrongState s
    else accept 0x70#8 (fun t => t.ports[q.port].powerData) (s.portPower q)

/-- Every named field of the configuration takes its value (R147). -/
def ConfigParams.apply (q : ConfigParams) (r : PortRec) : PortRec :=
  { r with zone := q.zone.getD r.zone, auto := q.auto.getD r.auto, crew := q.crew.getD r.crew }

/-- PORT_CONFIG: BAD_PARAM also if the deck would have more than four crew-marked ports (R147). It answers the
configuration as one data item (DEDUCED, log 5). -/
def execPortConfig (items : List Item) (s : State) : Answer :=
  match configParams items with
  | none => refuse 0x71#8 .badParam s
  | some q =>
    if Config.crewLimit < (s.mapPort q.port q.apply).crewCount q.port then refuse 0x71#8 .badParam s
    else accept 0x71#8 (fun t => [t.ports[q.port].configBytes]) (s.mapPort q.port q.apply)

/-- The time a port timer was loaded with, in ms. -/
def PortTimer.ms : PortTimer → Nat
  | .powerGood ms => ms
  | .discharge ms => ms
  | .link ms => ms

/-- PORT_QUERY: the whole record, and the remaining time of a running timer, a free value (R148, log 1); it is one data item
for whichever of the three timers runs (DEDUCED, log 5). -/
def execPortQuery (items : List Item) (s : State) : Answer :=
  match onePort items with
  | none => refuse 0x72#8 .badParam s
  | some p =>
    let left := s.ports[p].timer.map fun t => freeRemaining s.free t.ms
    answer 0x72#8 (fun t => [t.ports[p].bytes, optBytes bytes2 left]) (s.useFree 1)

/-- SET_PORT_TIMING (R143); the power-good timeout is answered before the link timeout (DEDUCED, log 5). -/
def execSetPortTiming (items : List Item) (s : State) : Answer :=
  match timingParams items with
  | none => refuse 0x73#8 .badParam s
  | some c =>
    accept 0x73#8 (fun t => [bytes2 t.timing.powerGoodMs, byteOf t.timing.linkS])
      { s with
        timing :=
          { powerGoodMs := c.powerGoodMs.getD s.timing.powerGoodMs, linkS := c.linkS.getD s.timing.linkS } }

/-- A rise of the presence sense (R140); a sense that is high already does not rise. -/
def execPresenceRise (p : Port) (s : State) : Answer :=
  if s.senses.presence[p] then .next s else .next ((s.sensePresence p true).rise p).settle

/-- A fall of the presence sense (R140); a sense that is low already does not fall. -/
def execPresenceFall (p : Port) (s : State) : Answer :=
  if s.senses.presence[p] then .next ((s.sensePresence p false).dropPort p PortRec.fall).settle else .next s

/-- The power-fault sense of a port takes a level: its assertion on a powered port is a power fault (R141). -/
def execPowerFault (p : Port) (asserted : Bool) (s : State) : Answer :=
  if asserted && !s.senses.fault[p] && s.ports[p].powered then
    .next ((s.senseFault p true).dropPort p PortRec.powerFailed).settle
  else .next (s.senseFault p asserted)

/-- A POWER_ON is in flight on a POWERING port (R143). -/
def PortRec.poweringUp (r : PortRec) : Bool := decide (r.state = .powering) && decide (r.command = some .powerOn)

/-- Power good, in POWERING with POWER_ON in flight: LINKING, and an idle poller of the deck starts a turn (R143, R144,
10 R151). -/
def execPowerGood (p : Port) (s : State) : Answer :=
  if s.ports[p].poweringUp then
    .next (((s.mapPort p (PortRec.linkUp s.timing)).refresh).wakePoller (deckOf p)).settle
  else .next s

/-- The power-good timer runs. -/
def PortTimer.isPowerGood : PortTimer → Bool
  | .powerGood _ => true
  | .discharge _ => false
  | .link _ => false

/-- The discharge interval runs. -/
def PortTimer.isDischarge : PortTimer → Bool
  | .powerGood _ => false
  | .discharge _ => true
  | .link _ => false

/-- The link timer runs. -/
def PortTimer.isLink : PortTimer → Bool
  | .powerGood _ => false
  | .discharge _ => false
  | .link _ => true

/-- The power-good timer expires: FAILED, FAULT(POWER) and POWER_FAULT (R143). -/
def execPowerGoodTimerExpiry (e : Expiry Port) (s : State) : Answer :=
  unlessLate e s fun p =>
    if s.ports[p].timer.any PortTimer.isPowerGood then .next (s.dropPort p PortRec.powerFailed).settle else .next s

/-- The discharge interval ends: DONE and PRESENT (R143). -/
def execDischargeEnd (e : Expiry Port) (s : State) : Answer :=
  unlessLate e s fun p =>
    if s.ports[p].timer.any PortTimer.isDischarge then .next (s.dropPort p PortRec.discharged).settle else .next s

/-- The link timer expires: FAULT(LINK) and LINK_FAULT (R144). -/
def execLinkTimerExpiry (e : Expiry Port) (s : State) : Answer :=
  unlessLate e s fun p =>
    if s.ports[p].timer.any PortTimer.isLink then .next (s.dropPort p PortRec.linkFailed).settle else .next s

end Sys2Proof.Machine
end

