-- ==== Sys2Proof/Machine/WakeCalls.lean ====
section
/-! DEFINITION. The meanings of the Wake Unit's requests and timers (spec/06 R101 to R110). -/

namespace Sys2Proof.Machine

open Sys2Proof

/-! ### Route progress -/

/-- The berth is ARMED for the stop. -/
def Image.armedFor (stop : Nat) (i : Image) : Bool := decide (i.stop = some stop) && decide (i.wake = .armed)

/-- An APPROACH starts the berth (R104). -/
def Image.dueAt (stop minutes : Nat) (i : Image) : Bool :=
  i.armedFor stop && i.lead.any fun lead => decide (minutes ≤ lead)

/-- The berth is booked to leave at the stop. -/
def Image.leavesAt (stop : Nat) (i : Image) : Bool := decide (i.stop = some stop)

/-- A ringing berth of the stop (R106). -/
def Image.ringsFor (stop : Nat) (i : Image) : Bool := i.leavesAt stop && i.wake.ringing

/-- The ports whose open record satisfies a test, ascending. -/
def State.matching (s : State) (f : Image → Bool) : PortSet := allPorts.filter fun p => (s.image p).any f

/-- A berth flag is set on every port of a set. -/
def State.flagPorts (k : BerthKind) (ps : PortSet) (s : State) : State :=
  { s with ports := Vector.ofFn fun p => if ps.contains p then s.ports[p].setFlag k else s.ports[p] }

/-- RINGING_1 starts on every open berth that satisfies a test (R103, R104). -/
def State.ringWhere (f : Image → Bool) (s : State) : State :=
  s.mapBerths fun _ b => if f b.image then b.startRinging s.alert.state s.policy.load s.wake.active else b

/-- DEPART at the berths: a ringing call of the stop ends UNANSWERED (R106). -/
def State.departRinging (stop : Nat) (s : State) : State :=
  s.mapBerths fun _ b =>
    if b.image.ringsFor stop then b.endRinging s.alert.state s.policy.load false .unanswered else b

/-- ROUTE_PROGRESS as taken (R104 to R106). -/
def State.route (q : RouteParams) (s : State) : State :=
  match q.kind with
  | .approach => s.ringWhere (Image.dueAt q.stop q.minutes)
  | .arrive => (s.ringWhere (Image.armedFor q.stop)).flagPorts .wakeLate (s.matching (Image.armedFor q.stop))
  | .depart =>
    (((s.departRinging q.stop).flagPorts .overstay (s.matching (Image.leavesAt q.stop))).flagPorts .wakeUnanswered
      (s.matching (Image.ringsFor q.stop))).copyIfIdle

/-- The counts in the response, of the berths as the request found them (R104 to R106). -/
def State.routeData (q : RouteParams) (s : State) : List (List Byte) :=
  match q.kind with
  | .approach => [byteOf (s.matching (Image.dueAt q.stop q.minutes)).length]
  | .arrive => [byteOf (s.matching (Image.armedFor q.stop)).length]
  | .depart =>
    [byteOf (s.matching (Image.leavesAt q.stop)).length, byteOf (s.matching (Image.ringsFor q.stop)).length]

/-- ROUTE_PROGRESS, one request whose kind item says which of the table's three rows it is (R104). -/
def State.routeRequest (items : List Item) (s : State) : Answer :=
  match routeParams items with
  | none => refuse 0x40#8 .badParam s
  | some q => accept 0x40#8 (fun _ => s.routeData q) (s.route q)

/-- ROUTE_PROGRESS(APPROACH) (R104). -/
def execRouteProgressApproach (items : List Item) (s : State) : Answer := s.routeRequest items

/-- ROUTE_PROGRESS(ARRIVE) (R105). -/
def execRouteProgressArrive (items : List Item) (s : State) : Answer := s.routeRequest items

/-- ROUTE_PROGRESS(DEPART) (R106). -/
def execRouteProgressDepart (items : List Item) (s : State) : Answer := s.routeRequest items

/-! ### Profiles -/

/-- The named values applied to a copy of a profile (R101). -/
def ProfileChange.apply (c : ProfileChange) (p : Profile) : Profile :=
  { startGain := c.startGain.getD p.startGain
    stage1Gain := c.stage1Gain.getD p.stage1Gain
    stage2Gain := c.stage2Gain.getD p.stage2Gain
    stepMs := c.stepMs.getD p.stepMs
    stepSize := c.stepSize.getD p.stepSize
    answerS := c.answerS.getD p.answerS }

/-- Both profiles, the active one first as R100 names them, and the copy waiting mark (R101; the order DEDUCED, log 5). -/
def State.profileData (s : State) : List (List Byte) :=
  [s.wake.active.bytes, s.wake.pending.bytes, flagByte s.wake.waiting]

/-- The pending profile is written; the copy waits if a ramp runs, else it is made at once (R102). -/
def State.setProfile (p : Profile) (s : State) : State :=
  { s with wake := { s.wake with pending := p, waiting := true } }.copyIfIdle

/-- SET_WAKE_PROFILE (R101, R102). -/
def execSetWakeProfile (items : List Item) (s : State) : Answer :=
  match profileParams items with
  | none => refuse 0x41#8 .badParam s
  | some c =>
    if (c.apply s.wake.pending).rising then
      accept 0x41#8 State.profileData (s.setProfile (c.apply s.wake.pending))
    else refuse 0x41#8 .badParam s

/-- READ_WAKE_PROFILE (R101). -/
def execReadWakeProfile (items : List Item) (s : State) : Answer :=
  match noParams items with
  | none => refuse 0x42#8 .badParam s
  | some _ => answer 0x42#8 State.profileData s

/-! ### WAKE_CANCEL -/

/-- The call of an ARMED berth is cancelled (R110). -/
def Image.disarm (i : Image) : Image := { i with wake := .cancelled }

/-- WAKE_CANCEL on a ringing call (R110). -/
def State.cancelRinging (p : Port) (s : State) : State :=
  ((s.mapBerth p (Berth.endRinging s.alert.state s.policy.load false .cancelled)).dropWakeReason p).copyIfIdle

/-- WAKE_CANCEL: BAD_PARAM, NOT_OPEN, WRONG_STATE, else CANCELLED (R110). -/
def execWakeCancel (items : List Item) (s : State) : Answer :=
  match onePort items with
  | none => refuse 0x43#8 .badParam s
  | some p =>
    match s.image p with
    | none => refuse 0x43#8 .notOpen s
    | some i =>
      if i.wake.ringing then accept 0x43#8 (fun t => [slotBytes t.slots[p]]) (s.cancelRinging p)
      else if i.wake = .armed then
        accept 0x43#8 (fun t => [slotBytes t.slots[p]]) (s.claim p false Image.disarm)
      else refuse 0x43#8 .wrongState s

/-! ### The timers of a ramp -/

/-- A waiting copy is made at a step boundary, before its step (R102). -/
def WakeUnit.copyWaiting (w : WakeUnit) : WakeUnit := if w.waiting then w.copy else w

/-- A step boundary of the ramp of a port (R103). -/
def State.stepRamp (p : Port) (s : State) : State :=
  let w := s.wake.copyWaiting
  { s with wake := w }.mapBerth p fun b => { b with ramp := b.ramp.map (Ramp.step w.active b.image.wake) }

/-- The step timer of a running ramp expires (R103). -/
def execStepBoundary (e : Expiry Port) (s : State) : Answer :=
  unlessLate e s fun p =>
    if (s.slots[p].bind Berth.ramp).isSome then .next (s.stepRamp p).settle else .next s

/-- RINGING_2 on the record (R107). -/
def Image.escalate (i : Image) : Image := { i with wake := .ringing2 }

/-- RINGING_2 starts on a berth: the ramp keeps its gain and its timers are loaded afresh (R103, R107). -/
def Berth.escalate (alert : AlertState) (load : Reload) (profile : Profile) (b : Berth) : Berth :=
  { b.claim alert load false Image.escalate with ramp := b.ramp.map profile.secondRamp }

/-- The wake status of a port with a running ramp. -/
def State.ringingStatus (s : State) (p : Port) : Option WakeStatus :=
  s.slots[p].bind fun b => b.ramp.map fun _ => b.image.wake

/-- The answer timer of a berth in RINGING_1 expires (R107). -/
def execStage1Expiry (e : Expiry Port) (s : State) : Answer :=
  unlessLate e s fun p =>
    if s.ringingStatus p = some .ringing1 then
      .next ((s.mapBerth p (Berth.escalate s.alert.state s.policy.load s.wake.active)).raiseCall p .wake).settle
    else .next s

/-- The answer timer of a berth in RINGING_2 expires (R108). -/
def execStage2Expiry (e : Expiry Port) (s : State) : Answer :=
  unlessLate e s fun p =>
    if s.ringingStatus p = some .ringing2 then
      .next (((s.mapBerth p (Berth.endRinging s.alert.state s.policy.load false .unanswered)).flagBerth
        .wakeUnanswered p).copyIfIdle).settle
    else .next s

end Sys2Proof.Machine
end

