-- ==== Sys2Proof/Machine/Dispatch.lean ====
section
/-! DEFINITION. The meaning of each command: one arm per row of spec/opcode_table.json. -/

namespace Sys2Proof.Machine

open Sys2Proof

def exec (i : Instr) (s : State) : Host.Outcome State Fault Refusal :=
  match i with
  | .powerOnReset pins => Sys2Proof.Machine.execPowerOnReset pins s
  | .badRequest frame => Sys2Proof.Machine.execBadRequest frame s
  | .responseRead clocked => Sys2Proof.Machine.execResponseRead clocked s
  | .openBerth items => Sys2Proof.Machine.execOpenBerth items s
  | .amendBerth items => Sys2Proof.Machine.execAmendBerth items s
  | .retireBerth items => Sys2Proof.Machine.execRetireBerth items s
  | .lookupBerth items => Sys2Proof.Machine.execLookupBerth items s
  | .findOccupant items => Sys2Proof.Machine.execFindOccupant items s
  | .listOccupied items => Sys2Proof.Machine.execListOccupied items s
  | .announce items => Sys2Proof.Machine.execAnnounce items s
  | .endAnnounce items => Sys2Proof.Machine.execEndAnnounce items s
  | .cancelAnnounce items => Sys2Proof.Machine.execCancelAnnounce items s
  | .releaseAnnounce items => Sys2Proof.Machine.execReleaseAnnounce items s
  | .lookupAnnounce items => Sys2Proof.Machine.execLookupAnnounce items s
  | .listAnnounce items => Sys2Proof.Machine.execListAnnounce items s
  | .setPolicy items => Sys2Proof.Machine.execSetPolicy items s
  | .readPolicy items => Sys2Proof.Machine.execReadPolicy items s
  | .setQuiet items => Sys2Proof.Machine.execSetQuiet items s
  | .lightsOut items => Sys2Proof.Machine.execLightsOut items s
  | .routeProgressApproach items => Sys2Proof.Machine.execRouteProgressApproach items s
  | .routeProgressArrive items => Sys2Proof.Machine.execRouteProgressArrive items s
  | .routeProgressDepart items => Sys2Proof.Machine.execRouteProgressDepart items s
  | .setWakeProfile items => Sys2Proof.Machine.execSetWakeProfile items s
  | .readWakeProfile items => Sys2Proof.Machine.execReadWakeProfile items s
  | .wakeCancel items => Sys2Proof.Machine.execWakeCancel items s
  | .setButtonWindow items => Sys2Proof.Machine.execSetButtonWindow items s
  | .callNext items => Sys2Proof.Machine.execCallNext items s
  | .callList items => Sys2Proof.Machine.execCallList items s
  | .callAttend items => Sys2Proof.Machine.execCallAttend items s
  | .callClose items => Sys2Proof.Machine.execCallClose items s
  | .alertRaise items => Sys2Proof.Machine.execAlertRaise items s
  | .alertClear items => Sys2Proof.Machine.execAlertClear items s
  | .resume items => Sys2Proof.Machine.execResume items s
  | .setAlertConfig items => Sys2Proof.Machine.execSetAlertConfig items s
  | .readAlert items => Sys2Proof.Machine.execReadAlert items s
  | .portPower items => Sys2Proof.Machine.execPortPower items s
  | .portConfig items => Sys2Proof.Machine.execPortConfig items s
  | .portQuery items => Sys2Proof.Machine.execPortQuery items s
  | .setPortTiming items => Sys2Proof.Machine.execSetPortTiming items s
  | .setPollMode items => Sys2Proof.Machine.execSetPollMode items s
  | .setPollTimeout items => Sys2Proof.Machine.execSetPollTimeout items s
  | .readPoll items => Sys2Proof.Machine.execReadPoll items s
  | .configureFeed items => Sys2Proof.Machine.execConfigureFeed items s
  | .unconfigureFeed items => Sys2Proof.Machine.execUnconfigureFeed items s
  | .feedQuery items => Sys2Proof.Machine.execFeedQuery items s
  | .setFeedStall items => Sys2Proof.Machine.execSetFeedStall items s
  | .partReset items => Sys2Proof.Machine.execPartReset items s
  | .tripReset items => Sys2Proof.Machine.execTripReset items s
  | .setEventEnables items => Sys2Proof.Machine.execSetEventEnables items s
  | .readSummary items => Sys2Proof.Machine.execReadSummary items s
  | .readBerthEvents items => Sys2Proof.Machine.execReadBerthEvents items s
  | .ackBerthEvents items => Sys2Proof.Machine.execAckBerthEvents items s
  | .ackCoachEvents items => Sys2Proof.Machine.execAckCoachEvents items s
  | .setDigest items => Sys2Proof.Machine.execSetDigest items s
  | .readDigest items => Sys2Proof.Machine.execReadDigest items s
  | .response deck late frame => Sys2Proof.Machine.execResponse deck late frame s
  | .responseTimerExpiry expiry => Sys2Proof.Machine.execResponseTimerExpiry expiry s
  | .presenceRise port => Sys2Proof.Machine.execPresenceRise port s
  | .presenceFall port => Sys2Proof.Machine.execPresenceFall port s
  | .powerFault port asserted => Sys2Proof.Machine.execPowerFault port asserted s
  | .powerGood port => Sys2Proof.Machine.execPowerGood port s
  | .powerGoodTimerExpiry expiry => Sys2Proof.Machine.execPowerGoodTimerExpiry expiry s
  | .dischargeEnd expiry => Sys2Proof.Machine.execDischargeEnd expiry s
  | .linkTimerExpiry expiry => Sys2Proof.Machine.execLinkTimerExpiry expiry s
  | .alertInEdge level => Sys2Proof.Machine.execAlertInEdge level s
  | .inactivityExpiry expiry => Sys2Proof.Machine.execInactivityExpiry expiry s
  | .windowExpiry expiry => Sys2Proof.Machine.execWindowExpiry expiry s
  | .stepBoundary expiry => Sys2Proof.Machine.execStepBoundary expiry s
  | .stage1Expiry expiry => Sys2Proof.Machine.execStage1Expiry expiry s
  | .stage2Expiry expiry => Sys2Proof.Machine.execStage2Expiry expiry s
  | .leadInEnd expiry => Sys2Proof.Machine.execLeadInEnd expiry s
  | .durationExpiry expiry => Sys2Proof.Machine.execDurationExpiry expiry s
  | .gapExpiry expiry => Sys2Proof.Machine.execGapExpiry expiry s
  | .stallTimerExpiry expiry => Sys2Proof.Machine.execStallTimerExpiry expiry s
  | .dataFrame bytes => Sys2Proof.Machine.execDataFrame bytes s
  | .endFrame bytes => Sys2Proof.Machine.execEndFrame bytes s
  | .walkComplete => Sys2Proof.Machine.execWalkComplete s
  | .coachClockTick => Sys2Proof.Machine.execCoachClockTick s

end Sys2Proof.Machine
end

