-- ==== Sys2Proof/Machine/Step.lean ====
section
/-! DEFINITION. One step of the BD40: the command at the front of the queue is taken whole (spec/95); on an empty queue
the block idles (log 8). -/

namespace Sys2Proof.Machine

open Sys2Proof

/-- The command at the front of the queue, run on the state with the rest of the queue. -/
def step (s : State) : Host.Outcome State Fault Refusal :=
  match s.pending with
  | [] => .next s
  | c :: rest => exec c { s with pending := rest }

/-- The command a table word spells is put at the front of the queue; the table gives no row bits, so none is. -/
def State.withFetchWord (s : State) (nbits w : Nat) : State :=
  match decodeTableWord nbits w with
  | some c => { s with pending := c :: s.pending }
  | none => s

end Sys2Proof.Machine
end

