-- ==== Sys2Proof/Safety.lean ====
section
/-! DEFINITION. The laws of the part that every step keeps, block by block. Each is a property of a state alone. -/

namespace Sys2Proof.Machine

open Sys2Proof

/-! ### Frames -/

/-- `t` is `u` with the event settled and no other change: each desired presentation recomputed (02 R31), the joined-set
departures made (04 R74), ATTN judged (12 R177), and whatever response is held. -/
structure State.SettledFrom (u t : State) : Prop where
  ports : ∀ p : Port, t.ports[p] = { u.ports[p] with desired := t.resolve p }
  roster : t.roster = u.roster.depart t.ports
  events : t.events = { u.events with attn := t.attnLevel }
  rest : t = { u with ports := t.ports, roster := t.roster, events := t.events, reply := t.reply }

/-- A request is taken: the event that makes `u` is settled, and the response is OK with data read from the state it left
(12 R170). -/
def Takes (o : Host.Outcome State Fault Refusal) (u : State) (code : Byte) (data : State → List (List Byte)) : Prop :=
  ∃ t, o = .next t ∧ u.SettledFrom t ∧ t.reply = some { code := code, status := .ok, data := data t }

/-- A request ends with a response and changes nothing else: a refusal (01 R4, 12 R170), or a request that only reads. -/
def Replies (o : Host.Outcome State Fault Refusal) (s : State) (code : Byte) (st : Status) (data : List (List Byte)) :
    Prop :=
  o = .next { s with reply := some { code := code, status := st, data := data } }

/-- An event is taken: it makes `u`, which is settled, and no response is built. -/
def Happens (o : Host.Outcome State Fault Refusal) (u : State) : Prop :=
  ∃ t, o = .next t ∧ u.SettledFrom t ∧ t.reply = u.reply

/-- The coach flags an event at the Roster may set (03 R55, 04 R70). -/
def annMarks : BitVec 8 := CoachKind.announceDone.mark ||| CoachKind.announceRepeat.mark

/-- `t` is `u` after an event at the Roster that leaves the desk `d`: its records, departed, and its coach flags are those of
`d`; only ANNOUNCE_DONE or ANNOUNCE_REPEAT became set; the event is settled; all else is as it was but for the response
held. -/
structure State.RosterOnly (u t : State) (d : Desk) : Prop where
  ports : ∀ p : Port, t.ports[p] = { u.ports[p] with desired := t.resolve p }
  roster : t.roster = d.roster.depart t.ports
  flags : t.events.coach = d.coach
  coach : t.events.coach ||| annMarks = u.events.coach ||| annMarks
  sticky : u.events.coach &&& t.events.coach = u.events.coach
  rest : t = { u with
    ports := t.ports, roster := t.roster, reply := t.reply
    events := { u.events with coach := t.events.coach, attn := t.attnLevel } }

/-- A record that an event at the Roster names only through the scan, a preemption or a departure: no berth of it is
reached or withdrawn, a berth leaves the owed set only as withheld, a GAP or DONE record is untouched, and no field set at
admission moves (03 R58, R61; 04 R69, R74). -/
structure Ann.Kept (a b : Ann) : Prop where
  fields : b = { a with
    state := b.state, channel := b.channel, owed := b.owed, audience := b.audience, joined := b.joined
    withheld := b.withheld, granted := b.granted }
  resting : a.state = .gap ∨ a.state = .done → b = a
  owed : b.owed.Sublist a.owed
  withheld : b.withheld + b.owed.length = a.withheld + a.owed.length

/-- Every slot but `h` holds a record after the event exactly if it did before, and each of those records is kept. -/
def Roster.OthersKept (r r' : Roster) (h : Handle) : Prop :=
  ∀ g : Handle, g ≠ h → ((r.rec? g).isSome = (r'.rec? g).isSome ∧
    ∀ a b, r.rec? g = some a → r'.rec? g = some b → a.Kept b)

/-- The record in slot `g` ranks above the record in slot `h`: a higher class, or the same class and admitted earlier
(03 R50). -/
def Roster.Outranks (r : Roster) (g h : Handle) : Prop :=
  ∃ a b, r.rec? g = some a ∧ r.rec? h = some b ∧
    (a.cls.code < b.cls.code ∨ (a.cls = b.cls ∧ r.order.idxOf g < r.order.idxOf h))

/-! ### The Channel Allocator (03 R56 to R61) -/

/-- `c` is the lowest-numbered FREE channel (03 R56, R58). -/
def Roster.LowestFree (r : Roster) (c : Channel) : Prop :=
  (∀ g : Handle, ∀ b ∈ r.rec? g, b.onAir = true → b.channel ≠ some c) ∧
    ∀ k : Channel, k < c → ∃ g : Handle, ∃ b ∈ r.rec? g, b.onAir = true ∧ b.channel = some k

/-- A TONE, or an exclusive source that no record on the air holds (03 R56). -/
def Roster.SourceFree (r : Roster) (src : Source) : Prop :=
  src.exclusive = true → ∀ g : Handle, ∀ b ∈ r.rec? g, b.onAir = true → b.source ≠ src

/-- While a channel is FREE, every waiting record waits for an exclusive source that a record on the air holds (03 R58). -/
def Roster.Served (r : Roster) : Prop :=
  (∃ c, r.LowestFree c) → ∀ h : Handle, ∀ a ∈ r.rec? h, a.waits = true → ¬r.SourceFree a.source

/-- The grant that makes `e` of `d` (03 R58; 04 R69, R70): the record of slot `h` starts its lead-in on the lowest-numbered
FREE channel, and ANNOUNCE_REPEAT is set exactly if its source is N0 or N1 and it was granted before. -/
def Desk.Granted (env : State) (h : Handle) (d e : Desk) : Prop :=
  ∃ (a : Ann) (c : Channel), d.roster.rec? h = some a ∧ d.roster.LowestFree c ∧
    e.roster = { d.roster with recs := d.roster.recs.set h.val (some (a.startLeadIn env c)) } ∧
    e.coach =
      if (a.source = .n0 ∨ a.source = .n1) ∧ a.granted = true then d.coach ||| CoachKind.announceRepeat.mark
      else d.coach

/-- One record of the scan: granted if it waits, a channel is FREE and its source is FREE or a TONE, else passed over (03
R58). -/
def Desk.Offered (env : State) (h : Handle) (d e : Desk) : Prop :=
  let ok := (∃ c, d.roster.LowestFree c) ∧ ∃ a ∈ d.roster.rec? h, a.waits = true ∧ d.roster.SourceFree a.source
  (ok → d.Granted env h e) ∧ (¬ok → e = d)

/-- The records of a list offered one after another (03 R58). -/
def Desk.Serves (env : State) : List Handle → Desk → Desk → Prop
  | [], d, e => e = d
  | h :: l, d, e => ∃ m : Desk, d.Offered env h m ∧ Desk.Serves env l m e

/-- The desk with the victim `v` preempted: HELD, its audience and joined set empty, its channel and source released, its
owed set, counts and repeats left kept (03 R61). -/
def Desk.preempt (v : Handle) (b : Ann) (d : Desk) : Desk :=
  { d with roster := { d.roster with
    recs := d.roster.recs.set v.val (some { b with state := .held, channel := none, audience := [], joined := [] }) } }

/-- The join of slot `h`, whose record is QUEUED with source `src`, where no other record could be granted (03 R58, R60,
R61): granted if a channel is FREE and the source is FREE or a TONE; else granted what the victim gives up, if there is a
victim; else nothing changes and it stays QUEUED. -/
def Desk.Joined (env : State) (h : Handle) (src : Source) (d e : Desk) : Prop :=
  let ok := (∃ c, d.roster.LowestFree c) ∧ d.roster.SourceFree src
  (ok → d.Granted env h e) ∧
    (¬ok → d.roster.victim h = none → e = d) ∧
    (¬ok → ∀ v : Handle, d.roster.victim h = some v →
      ∃ b : Ann, d.roster.rec? v = some b ∧ b.onAir = true ∧ (d.preempt v b).Granted env h e)

/-! ### What is recomputed at every event (spec/02 R31, 12 R177) -/

/-- Every desired presentation is the one the Resolver's cases give; every joined berth of a PLAYING record has a desired
presentation that carries the record's channel as audio (04 R74); and ATTN is at the level its law gives. -/
def State.Coherent (s : State) : Prop :=
  (∀ p : Port, s.ports[p].desired = s.resolve p) ∧
    (∀ h : Handle, ∀ a ∈ s.roster.rec? h, a.state = .playing → ∀ p ∈ a.joined,
      ∃ (c : Channel) (d : Presentation), a.channel = some c ∧ s.ports[p].desired = some d ∧ d.audio = .announce c) ∧
    s.events.attn = s.attnLevel

/-! ### The Berth Table (01 R8; 05 R90, R91; 06 R99, R103; 07 R115) -/

/-- No two open records hold the same occupant reference (01 R8). -/
def State.RefsDistinct (s : State) : Prop :=
  ∀ p q : Port, ∀ b ∈ s.slots[p], ∀ c ∈ s.slots[q], b.image.ref = c.image.ref → p = q

/-- An open berth: WAKING exactly while ringing (06 R99), with a ramp exactly then (06 R103); idle only while AWAKE and in
DAY mode (05 R90); never ARMED while WAKING (07 R115); its inactivity timer RUNNING exactly while the run condition holds
(05 R91). -/
structure Berth.Lawful (mode : QuietMode) (alert : AlertState) (b : Berth) : Prop where
  waking : b.image.state = .waking ↔ b.image.wake.ringing
  ramp : b.ramp.isSome ↔ b.image.state = .waking
  idle : b.image.idle → b.image.state = .awake ∧ mode = .day
  button : b.button = .idle ∨ b.image.state ≠ .waking
  timer : b.timer.isSome = b.image.runs alert

/-- Every open berth is lawful. -/
def State.BerthsLawful (s : State) : Prop := ∀ p : Port, ∀ b ∈ s.slots[p], b.Lawful s.quiet s.alert.state

/-! ### The Call List (07 R119) -/

/-- A port appears at most once in the list, only while its slot is OPEN, and with a reason (07 R119). -/
def State.CallsLawful (s : State) : Prop :=
  (s.calls.map Call.port).Nodup ∧ ∀ c ∈ s.calls, s.isOpen c.port = true ∧ (c.passenger || c.wake) = true

/-! ### The Roster (03 R54, R56, R67; 04 R83) -/

/-- reached + withheld + withdrawn + the size of the owed set equals the admitted audience (04 R83). -/
def Ann.Balanced (a : Ann) : Prop := a.reached + a.withheld + a.withdrawn + a.owed.length = a.admitted

/-- Every record is in balance. -/
def State.Balanced (s : State) : Prop := ∀ h : Handle, ∀ a ∈ s.roster.rec? h, a.Balanced

/-- Membership of an announcement's sets (03 R49, R52): no repeats; the owed ports have OPEN slots; the audience is drawn
from the owed set and the joined set from the audience. -/
structure Ann.Members (s : State) (a : Ann) : Prop where
  owed : a.owed.Nodup
  audience : a.audience.Nodup
  joined : a.joined.Nodup
  isOpen : ∀ p ∈ a.owed, s.isOpen p = true
  drawn : ∀ p ∈ a.audience, p ∈ a.owed
  heard : ∀ p ∈ a.joined, p ∈ a.audience

/-- Every record's sets are drawn from the berths that are open (03 R52). -/
def State.MembersLawful (s : State) : Prop := ∀ h : Handle, ∀ a ∈ s.roster.rec? h, a.Members s

/-- What a record's state says of its fields: a channel exactly on the air, an audience only on the air, a joined set only
while PLAYING, an outcome exactly in DONE (03 R49, R54). -/
structure Ann.Shaped (a : Ann) : Prop where
  channel : a.channel.isSome = a.onAir
  audience : a.audience = [] ∨ a.onAir = true
  joined : a.joined = [] ∨ a.state = .playing
  outcome : a.outcome.isSome ↔ a.state = .done

/-- The law of the Channel Allocator (03 R56): records on the air hold distinct channels, and no two of them hold the same
exclusive source. -/
def Roster.Exclusive (r : Roster) : Prop :=
  ∀ g h : Handle, ∀ a ∈ r.rec? g, ∀ b ∈ r.rec? h, a.onAir = true → b.onAir = true →
    a.channel = b.channel ∨ (a.source = b.source ∧ a.source.exclusive = true) → g = h

/-- The order of admission lists each occupied slot once (03 R50). -/
def Roster.Ordered (r : Roster) : Prop := r.order.Nodup ∧ ∀ h : Handle, h ∈ r.order ↔ (r.rec? h).isSome

/-- Slot 15 holds only a record of class SAFETY and target ALL (03 R67). -/
def Roster.AlertSlot (r : Roster) : Prop := ∀ a ∈ r.rec? alertSlot, a.cls = .safety ∧ a.target = .all

/-- The laws of the Roster together. -/
structure Roster.Lawful (r : Roster) : Prop where
  shaped : ∀ h : Handle, ∀ a ∈ r.rec? h, a.Shaped
  exclusive : r.Exclusive
  ordered : r.Ordered
  alertSlot : r.AlertSlot

/-! ### What an event makes of a record -/

/-- What the playout-end accounting of 04 R76 makes of a record whose joined set is `joined`. -/
def Ann.afterPlayout (joined : PortSet) (a : Ann) : Ann :=
  let owed := a.owed.filter fun p => !joined.contains p
  let b := { a with
    owed := owed, audience := [], joined := [], channel := none
    reached := a.reached + (a.owed.length - owed.length) }
  if owed = [] then { b with state := .done, outcome := some .complete }
  else if 0 < a.left then { b with state := .gap, left := a.left - 1 }
  else { b with state := .done, outcome := some .partialReach }

/-- What entry to DONE makes of a record (03 R55). -/
def Ann.ended (o : AnnOutcome) (a : Ann) : Ann :=
  { a with state := .done, channel := none, audience := [], joined := [], outcome := some o }

/-- What the retire of port `p` makes of a record (04 R79, R80): the port leaves its sets, and is withdrawn if it was owed;
QUEUED, HELD or GAP with the owed set emptied is DONE with COMPLETE; PLAYING with the audience emptied ends its playout with
the joined set empty. -/
def Ann.afterRetire (p : Port) (a : Ann) : Ann :=
  let b := { a with
    owed := a.owed.erase p, audience := a.audience.erase p, joined := a.joined.erase p
    withdrawn := a.withdrawn + if p ∈ a.owed then 1 else 0 }
  if (a.state = .queued ∨ a.state = .held ∨ a.state = .gap) ∧ p ∈ a.owed ∧ b.owed = [] then b.ended .complete
  else if a.state = .playing ∧ p ∈ a.audience ∧ b.audience = [] then b.afterPlayout []
  else b

/-- The desk after the retire of port `p`, before the scan: every record becomes `Ann.afterRetire`, and ANNOUNCE_DONE is set
exactly if that makes a live record DONE (01 R16, 03 R55). -/
def Desk.afterRetire (p : Port) (d : Desk) : Desk :=
  { roster := { d.roster with recs := d.roster.recs.map (Option.map (Ann.afterRetire p)) }
    coach :=
      if allHandles.any fun h => (d.roster.rec? h).any fun a =>
          decide (a.state ≠ .done) && decide ((a.afterRetire p).state = .done) then
        d.coach ||| CoachKind.announceDone.mark
      else d.coach }

/-- The desk with the record `b` in slot `h`, and ANNOUNCE_DONE set exactly if that makes it DONE (03 R55). -/
def State.deskWith (s : State) (h : Handle) (b : Ann) : Desk :=
  { roster := { s.roster with recs := s.roster.recs.set h.val (some b) }
    coach := if b.state = .done then s.events.coach ||| CoachKind.announceDone.mark else s.events.coach }

/-- `t` is `s` after a repetition or record of slot `h` has ended, leaving the record `b` there: the resources are offered
to the wait list by the scan, and the event is settled. -/
structure State.SlotEnds (s t : State) (h : Handle) (b : Ann) : Prop where
  only : s.RosterOnly t ((s.deskWith h b).scan s)
  record : t.roster.rec? h = some b
  flag : b.state = .done → t.events.flag .announceDone = true
  others : s.roster.OthersKept t.roster h
  order : t.roster.order = s.roster.order
  counter : t.roster.counter = s.roster.counter

/-- `t` is `s` after the record `q`, QUEUED in slot `h` of the Roster `r`, has joined the wait list. -/
structure State.Joins (s t : State) (r : Roster) (h : Handle) (q : Ann) : Prop where
  only : s.RosterOnly t (Desk.join s h { roster := r, coach := s.events.coach })
  law : s.roster.Lawful → s.roster.Served →
    Desk.Joined s h q.source { roster := r, coach := s.events.coach }
      (Desk.join s h { roster := r, coach := s.events.coach })

/-- `t` is `s` after an admission into slot `h` of a record with the fields of `a` and the owed set `owed` (03 R50, R52, R53):
the number is one that no other record holds, and each number from the counter's value up to it (exclusive, modulo 2^32) is
held by another record (log 14); the record is DONE with NO_AUDIENCE on an empty owed set, and else QUEUED, and joins. -/
def State.Admits (s t : State) (h : Handle) (a : Ann) (owed : PortSet) : Prop :=
  ∃ n : Count32,
    (∀ g : Handle, g ≠ h → ∀ b ∈ s.roster.rec? g, b.number ≠ n) ∧
    (∀ k < (n - s.roster.counter).toNat,
      ∃ g : Handle, g ≠ h ∧ ∃ b ∈ s.roster.rec? g, b.number = s.roster.counter + BitVec.ofNat 32 k) ∧
    s.roster.OthersKept t.roster h ∧
    let q : Ann := { a with
      number := n, state := .queued, channel := none, owed := owed, audience := [], joined := []
      admitted := owed.length, reached := 0, withheld := 0, withdrawn := 0, left := a.budget, outcome := none
      granted := false }
    let placed (x : Ann) : Roster :=
      { recs := s.roster.recs.set h.val (some x), order := s.roster.order.filter (· != h) ++ [h], counter := n + 1#32 }
    (owed = [] →
      s.RosterOnly t { roster := placed (q.ended .noAudience)
                       coach := s.events.coach ||| CoachKind.announceDone.mark } ∧
      t.roster.rec? h = some (q.ended .noAudience)) ∧
    (owed ≠ [] → s.Joins t (placed q) h q ∧
      ∃ b, t.roster.rec? h = some b ∧ q.Kept b ∧ (b.state = .queued ∨ b.state = .leadIn))

/-- A berth at alert entry (08 R130): NIGHT becomes AWAKE with one generation step, and the timer is STOPPED. -/
def Berth.alerted (b : Berth) : Berth :=
  { b with
    timer := none
    image :=
      if b.image.state = .night then
        { b.image with state := .awake, generation := b.image.generation + 1 }
      else b.image }

/-- Alert entry from `s` to `t` (08 R129): ACTIVE, with the coach event ALERT; the berth claims, with every timer STOPPED;
and slot 15, where a live record is re-armed in place and else the alert configuration is freshly admitted for every OPEN
slot (08 R131, R132). -/
def State.AlertEntered (s t : State) : Prop :=
  let u : State := { s.putSlots (s.slots.map (Option.map Berth.alerted)) with
    alert := { s.alert with state := .active }
    events := { s.events with coach := s.events.coach ||| CoachKind.alert.mark } }
  (∀ a : Ann, s.roster.rec? alertSlot = some a → a.state ≠ .done →
    ∃ owed : PortSet, (∀ p, p ∈ owed ↔ p ∈ a.owed ∨ s.isOpen p = true) ∧ owed.Nodup ∧
      u.RosterOnly t
        { roster := { s.roster with recs := s.roster.recs.set alertSlot.val (some { a with
            owed := owed, admitted := owed.length, reached := 0, withheld := 0, withdrawn := 0
            budget := s.alert.config.budget, left := s.alert.config.budget }) }
          coach := u.events.coach }) ∧
  ((∀ a ∈ s.roster.rec? alertSlot, a.state = .done) →
    ∃ owed : PortSet, (∀ p, p ∈ owed ↔ s.isOpen p = true) ∧ owed.Nodup ∧
      ∃ a : Ann, a.tag = 0 ∧ a.cls = .safety ∧ a.source = s.alert.config.source ∧ a.target = .all ∧ a.stop = none ∧
        a.language = none ∧ a.leadIn = 2 ∧ a.chime = true ∧ a.duration = s.alert.config.duration ∧
        a.budget = s.alert.config.budget ∧ a.gap = s.alert.config.gap ∧ u.Admits t alertSlot a owed)

/-! ### Ports and turns (09 R138, R142; 02 R42; 10 R151, R161) -/

/-- The timer a port runs, as its state and command in flight say (09 R143, R144). -/
def PortRec.timerFits (r : PortRec) : Bool :=
  match r.state, r.command, r.timer with
  | .powering, some .powerOn, some (.powerGood _) => true
  | .powering, some .powerOff, some (.discharge _) => true
  | .linking, none, some (.link _) => true
  | .empty, none, none => true
  | .present, none, none => true
  | .active, none, none => true
  | .fault, none, none => true
  | _, _, _ => false

/-- A port record, with the level of its presence sense: EMPTY exactly while the sense is low, the switch closed exactly
when R138 says, a cause exactly in FAULT, a command in flight exactly in POWERING and at most one timer, and no
presentation for delivery unless ACTIVE (09 R138, R142; 02 R42). -/
structure PortRec.Lawful (sense : Bool) (r : PortRec) : Prop where
  sense : r.state = .empty ↔ sense = false
  switch : r.switch = .closed ↔ (r.state = .linking ∨ r.state = .active ∨ r.poweringUp = true)
  cause : r.cause.isSome ↔ r.state = .fault
  timer : r.timerFits = true
  delivery : r.state = .active ∨ (r.desired = none ∧ r.lastSent = none ∧ r.acked = none)

/-- A turn in flight goes to a port of the deck, and its result is discarded unless the port is still in the state the
turn's kind was sent for (10 R158, R161). -/
def State.TurnLawful (s : State) (d : Deck) (t : Turn) : Prop :=
  deckOf t.port = d ∧
    (t.discarded = true ∨ s.ports[t.port].state = (match t.kind with
      | .identify => PortState.linking
      | .normal => PortState.active))

/-- The laws of the ports and of the turns in flight together. -/
structure State.PortsLawful (s : State) : Prop where
  ports : ∀ p : Port, s.ports[p].Lawful s.senses.presence[p]
  turns : ∀ d : Deck, ∀ t ∈ (s.poller d).turn, s.TurnLawful d t

/-! ### Feeds (11 R163, R166) -/

/-- A feed: a descriptor exactly when it is not ABSENT, a running stall timer exactly when it is ACTIVE. -/
structure Feed.Lawful (f : Feed) : Prop where
  desc : f.desc.isSome ↔ f.state ≠ .absent
  timer : f.timer.isSome ↔ f.state = .active

/-- Every feed is lawful. -/
def State.FeedsLawful (s : State) : Prop := ∀ f : FeedIx, s.feeds[f].Lawful

/-! ### The digest (12 R178, R179) -/

/-- A walk in progress runs under the settings in force; with none in progress, the settled digest is that of the table as
it stands (12 R179). -/
def State.DigestLawful (s : State) : Prop :=
  match s.digest.walk with
  | some w => w.poly = s.digest.poly ∧ w.order = s.digest.order
  | none => s.digest.settled = Walk.crc ⟨s.digest.poly, s.digest.order⟩ s.slots

/-! ### Wake profiles (06 R101, R102) -/

/-- Both profiles satisfy start gain ≤ stage-1 end gain ≤ stage-2 end gain, and a copy waits only while a ramp runs. -/
def State.ProfilesLawful (s : State) : Prop :=
  s.wake.active.rising = true ∧ s.wake.pending.rising = true ∧ (s.wake.waiting = true → s.anyRamp = true)

end Sys2Proof.Machine
end

