-- ==== Sys2Proof/Certificates/Slice0/Obligations.lean ====
section
/-! DEFINITION. The statements about the BD40 that the provers are asked for, in the order of OBLIGATIONS.json. A request's
operands are its parameter items as its rule's fields; `Takes`, `Replies` and `Happens` (Sys2Proof/Safety.lean) say that a
command completes, what it changes, and that nothing else moves. -/

section

open Sys2Proof Sys2Proof.Machine

/-! ### The machine -/

/-- A step takes the command at the front of the queue and runs it on the state with the rest of the queue. On an empty
queue the block idles (the model's choice, log 8). -/
def Obligations.StepTakesFrontCommand : Prop :=
  (∀ (c : Instr) (rest : List Instr) (s : State), s.pending = c :: rest → step s = exec c { s with pending := rest }) ∧
    ∀ s : State, s.pending = [] → step s = .next s

/-- Every block holds its reset values at State.reset (the reset columns of 01 R1, 03 R48, 05 R86, 06 R100, 07 R115 and
R119, 08 R125 and R126, 09 R139 and R143, 10 R150, 11 R163, 12 R171 and R176 to R178). That no Poll stands as sent after reset
(`poll := none`) is the model's choice (log 12). -/
def Obligations.ResetState : Prop :=
  let s := State.reset
  (∀ p : Port, s.slots[p] = none) ∧
    (∀ h : Handle, s.roster.rec? h = none) ∧ s.roster.order = [] ∧ s.roster.counter = 0#32 ∧
    s.quiet = .day ∧
    s.policy = { dayCeiling := 28, quietCeiling := 16, speakerCeiling := 6, safetyGain := 24, alertGain := 28
                 reload := 20, unit := .minutes, driverNight := false } ∧
    s.wake.active = { startGain := 4, stage1Gain := 16, stage2Gain := 26, stepMs := 1000, stepSize := 1
                      answerS := 90 } ∧
    s.wake.pending = s.wake.active ∧ s.wake.waiting = false ∧
    s.windowMs = 500 ∧ s.calls = [] ∧ s.clock = 0#32 ∧
    s.alert.state = .clear ∧
    s.alert.config = { edge := .falling, source := .alertTone, budget := 3, gap := 10, duration := 20 } ∧
    (∀ p : Port, s.ports[p].zone.val = p.val / 5 ∧
      s.ports[p] = { state := .empty, cause := none, switch := .opened, request := .off, command := none, outcome := none
                     zone := s.ports[p].zone, auto := true, crew := false, identity := none, headphones := false
                     misses := 0, baseline := none, lastTaken := none, desired := none, lastSent := none, acked := none
                     flags := 0#10, verdicts := none, timer := none }) ∧
    s.timing = { powerGoodMs := 100, linkS := 2 } ∧
    (∀ d : Deck, s.poller d = { mode := .round, pending := none, round := 0, priority := 0, ordinary := 0
                                next := .priority, sweep := 0, turn := none, poll := none }) ∧
    s.responseMs = 2 ∧
    (∀ f : FeedIx, s.feeds[f] = { state := .absent, desc := none, timer := none }) ∧ s.stallMs = 500 ∧
    s.events = { coach := 0#8, berthEnables := BitVec.allOnes 10, coachEnables := BitVec.allOnes 8
                 zoneEnables := BitVec.allOnes 8, attn := false } ∧
    s.digest = { settled := 0xFFFF#16, poly := .digestA, order := .msbFirst, walk := some ⟨.digestA, .msbFirst⟩ } ∧
    s.reply = none ∧ s.rdy = false

/-- The invariants stated below hold at State.reset. -/
def Obligations.InvariantsAtReset : Prop :=
  let s := State.reset
  s.Coherent ∧ s.RefsDistinct ∧ s.CallsLawful ∧ s.BerthsLawful ∧ s.Balanced ∧ s.MembersLawful ∧ s.roster.Lawful ∧
    s.roster.Served ∧
    s.PortsLawful ∧ s.FeedsLawful ∧ s.ProfilesLawful ∧ s.DigestLawful

/-- Every request but PART_RESET, whatever its items, answers a next state that holds a response with its code; if the
status is not OK, nothing else has changed. -/
def Obligations.RequestsAreAnswered : Prop :=
  ∀ (c : Instr) (code : Byte) (items : List Item) (s : State), requestParts c = some (code, items) → code ≠ 0x90#8 →
    ∃ (t : State) (r : Reply), exec c s = .next t ∧ t.reply = some r ∧ r.code = code ∧
      (r.status ≠ .ok → t = { s with reply := some r })

/-- A request whose parameters are missing, repeated, unknown, of a wrong size, out of range or off their step is refused
BAD_PARAM, and changes nothing but the response. That this comes before any check of state, also where a rule lists no
BAD_PARAM, and that a wrong size counts, is the model's reading (log 16); so are the size of membership marks (log 5) and
that ROUTE_PROGRESS is one request with three rows (log 11). -/
def Obligations.MalformedRequestsRefused : Prop :=
  ∀ (items : List Item) (s : State),
    (openParams items = none → Replies (exec (.openBerth items) s) s 0x10#8 .badParam []) ∧
    (amendParams items = none → Replies (exec (.amendBerth items) s) s 0x11#8 .badParam []) ∧
    (retireParams items = none → Replies (exec (.retireBerth items) s) s 0x12#8 .badParam []) ∧
    (onePort items = none →
      Replies (exec (.lookupBerth items) s) s 0x13#8 .badParam [] ∧
      Replies (exec (.wakeCancel items) s) s 0x43#8 .badParam [] ∧
      Replies (exec (.callAttend items) s) s 0x53#8 .badParam [] ∧
      Replies (exec (.callClose items) s) s 0x54#8 .badParam [] ∧
      Replies (exec (.portQuery items) s) s 0x72#8 .badParam [] ∧
      Replies (exec (.readBerthEvents items) s) s 0x94#8 .badParam []) ∧
    (findParams items = none → Replies (exec (.findOccupant items) s) s 0x14#8 .badParam []) ∧
    (announceParams items = none → Replies (exec (.announce items) s) s 0x20#8 .badParam []) ∧
    (oneHandle items = none →
      Replies (exec (.endAnnounce items) s) s 0x21#8 .badParam [] ∧
      Replies (exec (.cancelAnnounce items) s) s 0x22#8 .badParam [] ∧
      Replies (exec (.releaseAnnounce items) s) s 0x23#8 .badParam [] ∧
      Replies (exec (.lookupAnnounce items) s) s 0x24#8 .badParam []) ∧
    (policyParams items = none → Replies (exec (.setPolicy items) s) s 0x30#8 .badParam []) ∧
    (quietParams items = none → Replies (exec (.setQuiet items) s) s 0x32#8 .badParam []) ∧
    (routeParams items = none →
      Replies (exec (.routeProgressApproach items) s) s 0x40#8 .badParam [] ∧
      Replies (exec (.routeProgressArrive items) s) s 0x40#8 .badParam [] ∧
      Replies (exec (.routeProgressDepart items) s) s 0x40#8 .badParam []) ∧
    (profileParams items = none → Replies (exec (.setWakeProfile items) s) s 0x41#8 .badParam []) ∧
    (windowParams items = none → Replies (exec (.setButtonWindow items) s) s 0x50#8 .badParam []) ∧
    (callListParams items = none → Replies (exec (.callList items) s) s 0x52#8 .badParam []) ∧
    (alertParams items = none → Replies (exec (.setAlertConfig items) s) s 0x63#8 .badParam []) ∧
    (powerParams items = none → Replies (exec (.portPower items) s) s 0x70#8 .badParam []) ∧
    (configParams items = none → Replies (exec (.portConfig items) s) s 0x71#8 .badParam []) ∧
    (timingParams items = none → Replies (exec (.setPortTiming items) s) s 0x73#8 .badParam []) ∧
    (pollModeParams items = none → Replies (exec (.setPollMode items) s) s 0x80#8 .badParam []) ∧
    (pollTimeoutParams items = none → Replies (exec (.setPollTimeout items) s) s 0x81#8 .badParam []) ∧
    (readPollParams items = none → Replies (exec (.readPoll items) s) s 0x82#8 .badParam []) ∧
    (feedParams items = none → Replies (exec (.configureFeed items) s) s 0x88#8 .badParam []) ∧
    (oneFeed items = none → Replies (exec (.unconfigureFeed items) s) s 0x89#8 .badParam []) ∧
    (feedQueryParams items = none → Replies (exec (.feedQuery items) s) s 0x8A#8 .badParam []) ∧
    (stallParams items = none → Replies (exec (.setFeedStall items) s) s 0x8B#8 .badParam []) ∧
    (enableParams items = none → Replies (exec (.setEventEnables items) s) s 0x92#8 .badParam []) ∧
    (ackBerthParams items = none → Replies (exec (.ackBerthEvents items) s) s 0x95#8 .badParam []) ∧
    (ackCoachParams items = none → Replies (exec (.ackCoachEvents items) s) s 0x96#8 .badParam []) ∧
    (digestParams items = none → Replies (exec (.setDigest items) s) s 0x97#8 .badParam []) ∧
    (items ≠ [] →
      Replies (exec (.listOccupied items) s) s 0x15#8 .badParam [] ∧
      Replies (exec (.listAnnounce items) s) s 0x25#8 .badParam [] ∧
      Replies (exec (.readPolicy items) s) s 0x31#8 .badParam [] ∧
      Replies (exec (.lightsOut items) s) s 0x33#8 .badParam [] ∧
      Replies (exec (.readWakeProfile items) s) s 0x42#8 .badParam [] ∧
      Replies (exec (.callNext items) s) s 0x51#8 .badParam [] ∧
      Replies (exec (.alertRaise items) s) s 0x60#8 .badParam [] ∧
      Replies (exec (.alertClear items) s) s 0x61#8 .badParam [] ∧
      Replies (exec (.resume items) s) s 0x62#8 .badParam [] ∧
      Replies (exec (.readAlert items) s) s 0x64#8 .badParam [] ∧
      Replies (exec (.tripReset items) s) s 0x91#8 .badParam [] ∧
      Replies (exec (.readSummary items) s) s 0x93#8 .badParam [] ∧
      Replies (exec (.readDigest items) s) s 0x98#8 .badParam [])

/-! ### What every step keeps -/

/-- Every desired presentation stays the one the Resolver's cases give; every joined berth of a PLAYING record keeps a desired
presentation that carries the record's channel; and ATTN stays asserted exactly when some flag of an enabled kind is set on
a port of an enabled zone, or some coach flag of an enabled kind is set (02 R31, 04 R74, 12 R177). -/
def Obligations.CoherentKept : Prop := ∀ s t : State, s.Coherent → step s = .next t → t.Coherent

/-- No two open records hold the same occupant reference (01 R8); and a port appears at most once in the Call List, and
only while its slot holds an open record (07 R119). -/
def Obligations.RefsAndCallsKept : Prop :=
  (∀ s t : State, s.RefsDistinct → step s = .next t → t.RefsDistinct) ∧
  (∀ s t : State, s.CallsLawful → step s = .next t → t.CallsLawful)

/-- WAKING exactly while ringing, a ramp exactly then, idle only while AWAKE in DAY, ARMED never while WAKING, and the
inactivity timer RUNNING exactly while its run condition holds (05 R90, R91; 06 R99, R103; 07 R115). -/
def Obligations.BerthsLawfulKept : Prop := ∀ s t : State, s.BerthsLawful → step s = .next t → t.BerthsLawful

/-- For every announcement record, reached + withheld + withdrawn + the size of the owed set equals the admitted audience
(04 R83). -/
def Obligations.BalanceKept : Prop := ∀ s t : State, s.Balanced → step s = .next t → t.Balanced

/-- A port is in an announcement's owed, audience or joined set only while its slot holds an open record (03 R52). -/
def Obligations.MembersKept : Prop := ∀ s t : State, s.MembersLawful → step s = .next t → t.MembersLawful

/-- Records on the air hold distinct channels and distinct exclusive sources, slot 15 holds only the alert announcement, and
each record's fields are those its state has (03 R49, R50, R54, R56, R67). Beside these, the Allocator has always served the
wait list: while a channel is FREE, every waiting record waits for an exclusive source that a record on the air holds (03
R58). -/
def Obligations.RosterLawfulKept : Prop :=
  (∀ s t : State, s.roster.Lawful → step s = .next t → t.roster.Lawful) ∧
    ∀ s t : State, s.roster.Lawful → s.roster.Served → step s = .next t → t.roster.Served

/-- A port is EMPTY exactly while its presence sense is low, its switch and cause are those of its state, it has a command
in flight exactly in POWERING, and it has a presentation only while ACTIVE; a turn in flight is discarded once its port has
left the state it was sent in (09 R138, R142; 02 R42; 10 R161). -/
def Obligations.PortsLawfulKept : Prop := ∀ s t : State, s.PortsLawful → step s = .next t → t.PortsLawful

/-- Feeds hold a descriptor exactly when not ABSENT and a stall timer exactly when ACTIVE; profiles rise and a copy waits
only while a ramp runs; and a settled digest with no walk in progress is the digest of the table as it stands (11 R163; 06
R101, R102; 12 R179). -/
def Obligations.FeedsProfilesDigestKept : Prop :=
  ∀ s t : State, step s = .next t →
    (s.FeedsLawful → t.FeedsLawful) ∧ (s.ProfilesLawful → t.ProfilesLawful) ∧ (s.DigestLawful → t.DigestLawful)

/-! ### Request frames -/

/-- The bytes of a request write carry every request whole: a request whose items fit its frame is read back from the frame
that R181 lays out for its code and items, and the transfer is that command. -/
def Obligations.RequestFrameRoundTrip : Prop :=
  ∀ (c : Instr) (code : Byte) (items : List Item), requestParts c = some (code, items) → c.wf = true →
    requestOfFrame (requestFrame code items) = some c ∧ commandOfTransfer (requestFrame code items) = c

/-! ### The Berth Table -/

/-- OPEN_BERTH (R8, R9): OCCUPIED, DUPLICATE, else the slot holds the record with the fields supplied. -/
def Obligations.OpenBerth : Prop :=
  ∀ (items : List Item) (s : State) (q : OpenParams), openParams items = some q →
    (s.isOpen q.port = true → Replies (exec (.openBerth items) s) s 0x10#8 .occupied []) ∧
    (s.slots[q.port] = none → (∃ p : Port, ∃ b ∈ s.slots[p], b.image.ref = q.ref) →
      Replies (exec (.openBerth items) s) s 0x10#8 .duplicate []) ∧
    (s.slots[q.port] = none → (∀ p : Port, ∀ b ∈ s.slots[p], b.image.ref ≠ q.ref) →
      Takes (exec (.openBerth items) s)
        { s with
          slots := s.slots.set q.port.val (some
            { image :=
                { ref := q.ref, generation := 0#8, state := .awake, idle := false, program := q.program
                  language := q.language, volume := q.volume, ceiling := q.ceiling, locked := q.locked, lamp := q.lamp
                  stop := q.stop, lead := q.lead
                  wake := if q.stop.isSome && q.lead.isSome then .armed else .none }
              timer := if s.alert.state = .clear then some ⟨s.policy.reload, s.policy.unit⟩ else none
              button := .idle
              ramp := none })
          digest := { s.digest with walk := some ⟨s.digest.poly, s.digest.order⟩ } }
        0x10#8 fun t => [slotBytes t.slots[q.port]])

/-- AMEND_BERTH (R11, R12, R15): NOT_OPEN, STALE with the current generation, WAKING, else the change set applied as one
change; a berth's inactivity timer, button and ramp stay. -/
def Obligations.AmendBerth : Prop :=
  ∀ (items : List Item) (s : State) (q : AmendParams), amendParams items = some q →
    (s.slots[q.port] = none → Replies (exec (.amendBerth items) s) s 0x11#8 .notOpen []) ∧
    ∀ b : Berth, s.slots[q.port] = some b →
      ((∃ g ∈ q.expected, g ≠ b.image.generation) →
        Replies (exec (.amendBerth items) s) s 0x11#8 .stale [[b.image.generation]]) ∧
      ((∀ g ∈ q.expected, g = b.image.generation) → q.changes.namesWake = true →
        (b.image.wake = .ringing1 ∨ b.image.wake = .ringing2) →
        Replies (exec (.amendBerth items) s) s 0x11#8 .waking []) ∧
      ((∀ g ∈ q.expected, g = b.image.generation) →
        ¬(q.changes.namesWake = true ∧ (b.image.wake = .ringing1 ∨ b.image.wake = .ringing2)) → s.BerthsLawful →
        let stop := q.changes.stop.getD b.image.stop
        let lead := q.changes.lead.getD b.image.lead
        let amended : Image := { b.image with
          program := q.changes.program.getD b.image.program
          language := q.changes.language.getD b.image.language
          volume := q.changes.volume.getD b.image.volume
          ceiling := q.changes.ceiling.getD b.image.ceiling
          locked := q.changes.locked.getD b.image.locked
          lamp := q.changes.lamp.getD b.image.lamp
          stop := stop
          lead := lead
          wake := if q.changes.namesWake then (if stop.isSome && lead.isSome then .armed else .none) else b.image.wake }
        let image := if amended = b.image then b.image
          else { amended with generation := b.image.generation + 1 }
        Takes (exec (.amendBerth items) s) (s.putSlots (s.slots.set q.port.val (some { b with image := image })))
          0x11#8 fun t => [slotBytes t.slots[q.port]])

/-- RETIRE_BERTH (R14, R16; 04 R79, R80): NOT_OPEN, STALE with the current generation, else the slot is VACANT; the port leaves
every announcement's sets, with withdrawn one higher where it was owed, and a record whose owed set or audience that empties
goes on as R79 and R80 give; the scan follows; its call is removed; a waiting profile copy is made if this was the last ramp
(06 R102); nothing else moves. That all records change first and one single scan follows is the model's reading (log 7). -/
def Obligations.RetireBerth : Prop :=
  ∀ (items : List Item) (s : State) (q : RetireParams), retireParams items = some q →
    (s.slots[q.port] = none → Replies (exec (.retireBerth items) s) s 0x12#8 .notOpen []) ∧
    ∀ b : Berth, s.slots[q.port] = some b →
      ((∃ g ∈ q.expected, g ≠ b.image.generation) →
        Replies (exec (.retireBerth items) s) s 0x12#8 .stale [[b.image.generation]]) ∧
      ((∀ g ∈ q.expected, g = b.image.generation) → s.MembersLawful →
        let u : State := { s with
          slots := s.slots.set q.port.val none
          digest := { s.digest with walk := some ⟨s.digest.poly, s.digest.order⟩ }
          calls := s.calls.filter fun c => c.port != q.port
          wake :=
            if s.wake.waiting = true ∧ ∀ p : Port, p ≠ q.port → ∀ c ∈ s.slots[p], c.ramp = none then
              { active := s.wake.pending, pending := s.wake.pending, waiting := false }
            else s.wake }
        ∃ t : State, exec (.retireBerth items) s = .next t ∧
          t.reply = some { code := 0x12#8, status := .ok, data := [] } ∧
          u.RosterOnly t (Desk.scan u (Desk.afterRetire q.port { roster := s.roster, coach := s.events.coach })) ∧
          t.roster.order = s.roster.order ∧ t.roster.counter = s.roster.counter ∧
          ∀ h : Handle, (s.roster.rec? h).isSome = (t.roster.rec? h).isSome ∧
            ∀ a a' : Ann, s.roster.rec? h = some a → t.roster.rec? h = some a' →
              q.port ∉ a'.owed ∧ q.port ∉ a'.audience ∧ q.port ∉ a'.joined ∧
              a'.withdrawn = a.withdrawn + (if q.port ∈ a.owed then 1 else 0) ∧
              a'.tag = a.tag ∧ a'.number = a.number ∧ a'.admitted = a.admitted)

/-- LOOKUP_BERTH, FIND_OCCUPANT, LIST_OCCUPIED, LOOKUP_ANNOUNCE and LIST_ANNOUNCE (R18, R19, 03 R66): they answer from the
table and the Roster, and change nothing. A parameter outside its range is BAD_PARAM. The forms of the data (the one-byte
vacant marker, absent fields without a byte, the width of membership marks, one item a slot) are the model's reading
(log 5). -/
def Obligations.RecordReads : Prop :=
  (∀ (items : List Item) (s : State),
    (onePort items = none → Replies (exec (.lookupBerth items) s) s 0x13#8 .badParam []) ∧
    (findParams items = none → Replies (exec (.findOccupant items) s) s 0x14#8 .badParam []) ∧
    (∀ p : Port, onePort items = some p →
      Replies (exec (.lookupBerth items) s) s 0x13#8 .ok
        [match s.slots[p] with
          | none => [0#8]
          | some b => b.image.bytes]) ∧
    (∀ ref : Nat, findParams items = some ref →
      ((∀ p : Port, ∀ b ∈ s.slots[p], b.image.ref ≠ ref) →
        Replies (exec (.findOccupant items) s) s 0x14#8 .notFound []) ∧
      (s.RefsDistinct → ∀ (p : Port) (b : Berth), s.slots[p] = some b → b.image.ref = ref →
        Replies (exec (.findOccupant items) s) s 0x14#8 .ok [byteOf p.val])) ∧
    (items = [] →
      Replies (exec (.listOccupied items) s) s 0x15#8 .ok
        [marksBytes (portMarks (allPorts.filter fun p => (s.slots[p]).isSome)),
          byteOf (allPorts.filter fun p => (s.slots[p]).isSome).length])) ∧
  (∀ (items : List Item) (s : State),
    (oneHandle items = none → Replies (exec (.lookupAnnounce items) s) s 0x24#8 .badParam []) ∧
    (∀ h : Handle, oneHandle items = some h →
      (s.roster.rec? h = none → Replies (exec (.lookupAnnounce items) s) s 0x24#8 .notFound []) ∧
      ∀ a : Ann, s.roster.rec? h = some a →
        Replies (exec (.lookupAnnounce items) s) s 0x24#8 .ok [a.bytes h]) ∧
    (items = [] →
      Replies (exec (.listAnnounce items) s) s 0x25#8 .ok
        (allHandles.map fun h => match s.roster.rec? h with
          | none => []
          | some a => byteOf a.state.code ++ byteOf a.cls.code ++ bytes2 a.tag ++
              match a.outcome with
              | none => []
              | some o => byteOf o.code)))

/-- One claim on a record (R4, R5; 05 R91): the generation advances by one exactly if another field changed; a walk starts
exactly if some record's image changed; the timer is STOPPED where the run condition fails, loaded where it begins to hold
or on activity, and else as it was. -/
def Obligations.ClaimAdvancesGeneration : Prop :=
  (∀ (alert : AlertState) (load : Reload) (activity : Bool) (f : Image → Image) (b : Berth),
    let c := b.claim alert load activity f
    ((∀ g, { f b.image with generation := g } ≠ { b.image with generation := g }) →
      c.image = { f b.image with generation := b.image.generation + 1 }) ∧
    ((∃ g, { f b.image with generation := g } = { b.image with generation := g }) → c.image = b.image) ∧
    (c.image.runs alert = false → c.timer = none) ∧
    (c.image.runs alert = true → (activity = true ∨ b.image.runs alert = false) → c.timer = some load) ∧
    (c.image.runs alert = true → activity = false → b.image.runs alert = true → c.timer = b.timer) ∧
    c.button = b.button ∧ c.ramp = b.ramp) ∧
  ∀ (v : Vector (Option Berth) 40) (s : State),
    ((∀ p : Port, v[p].map Berth.image = s.slots[p].map Berth.image) → s.putSlots v = { s with slots := v }) ∧
    ((∃ p : Port, v[p].map Berth.image ≠ s.slots[p].map Berth.image) →
      s.putSlots v =
        { s with slots := v, digest := { s.digest with walk := some ⟨s.digest.poly, s.digest.order⟩ } })

/-- Passenger requests (R20 to R25): the verdicts in their order, and one claim with the activity on the record where the
request is taken; a refused one changes nothing. The requests of one Response are taken in its order, each on what the one
before it left. -/
def Obligations.PassengerRequests : Prop :=
  ∀ (p : Port) (s : State),
    s.passengers p [] = ([], s) ∧
    (∀ (code value : Byte) (rest : List (Byte × Byte)),
      let first := s.passenger p code value
      let others := first.2.passengers p rest
      s.passengers p ((code, value) :: rest) = (first.1 :: others.1, others.2)) ∧
    (s.slots[p] = none → ∀ code value : Byte, s.passenger p code value = (.vacant, s)) ∧
    ∀ b : Berth, s.slots[p] = some b →
      let active (i : Image) : Image :=
        { i with idle := false, state := if i.state = .night then .awake else i.state }
      let taken (i : Image) : State := s.claim p true fun _ => active i
      (∀ code value : Byte,
        ((code ≠ 1#8 ∧ code ≠ 2#8 ∧ code ≠ 3#8 ∧ code ≠ 4#8) ∨ (code = 1#8 ∧ 12 ≤ value.toNat ∧ value ≠ 0xFF#8) ∨
          (code = 2#8 ∧ 16 ≤ value.toNat) ∨ (code = 3#8 ∧ 32 ≤ value.toNat) ∨ (code = 4#8 ∧ 2 ≤ value.toNat)) →
        s.passenger p code value = (.invalid, s)) ∧
      (s.passenger p 1#8 0xFF#8 =
        if b.image.locked.program then (.locked, s) else (.ok, taken { b.image with program := none })) ∧
      (∀ c : Program, s.passenger p 1#8 (BitVec.ofNat 8 c.val) =
        if b.image.locked.program then (.locked, s)
        else if (s.programFeed c).state = .absent then (.unavailable, s)
        else (.ok, taken { b.image with program := some c })) ∧
      (∀ l : Fin 16, s.passenger p 2#8 (BitVec.ofNat 8 l.val) =
        if b.image.locked.language then (.locked, s) else (.ok, taken { b.image with language := l })) ∧
      (∀ v : Fin 32, s.passenger p 3#8 (BitVec.ofNat 8 v.val) =
        if b.image.locked.volume then (.locked, s)
        else if v.val ≤ s.ceiling p b.image then (.ok, taken { b.image with volume := v.val })
        else (.clamped, taken { b.image with volume := s.ceiling p b.image })) ∧
      (s.passenger p 4#8 1#8 =
        if b.image.locked.volume then (.locked, s)
        else if b.image.volume < s.ceiling p b.image then (.ok, taken { b.image with volume := b.image.volume + 1 })
        else (.clamped, taken b.image)) ∧
      s.passenger p 4#8 0#8 =
        if b.image.locked.volume then (.locked, s)
        else if 0 < b.image.volume then (.ok, taken { b.image with volume := b.image.volume - 1 })
        else (.clamped, taken b.image)

/-! ### Presentations -/

/-- The cases of R32, in their order, with R33 to R36: nothing unless ACTIVE, the vacant presentation on a VACANT slot, the
current announcement, the alert, WAKING, NIGHT, AWAKE. -/
def Obligations.PresentationCases : Prop :=
  ∀ (s : State) (p : Port),
    (s.ports[p].state ≠ .active → s.resolve p = none) ∧
    (s.ports[p].state = .active → s.slots[p] = none →
      s.resolve p = some { video := none, audio := .silent, gain := 0, screen := .off, lamp := .off }) ∧
    ∀ b : Berth, s.ports[p].state = .active → s.slots[p] = some b →
      let i := b.image
      let calm := s.alert.state = .clear
      let video : Option Program := i.program.filter fun c =>
        decide ((s.programFeed c).state = .active) && (s.programFeed c).hasVideo && s.ports[p].hasScreen
      (∀ (a : Ann) (c : Channel), s.roster.current p = some (a, c) →
        s.resolve p = some
          { video := if i.state = .awake ∧ calm then video else none
            audio := .announce c
            gain := s.gain p b (some a) (.announce c)
            screen := if i.state = .night ∧ calm then .dim else .on
            lamp := s.lamp p i }) ∧
      (s.roster.current p = none → ¬calm →
        let audio : Audio := if i.state = .waking then .wake else .silent
        s.resolve p = some
          { video := none, audio := audio, gain := s.gain p b none audio, screen := .on, lamp := s.lamp p i }) ∧
      (s.roster.current p = none → calm → i.state = .waking →
        s.resolve p = some
          { video := none, audio := .wake, gain := s.gain p b none .wake, screen := .on, lamp := s.lamp p i }) ∧
      (s.roster.current p = none → calm → i.state = .night →
        s.resolve p = some { video := none, audio := .silent, gain := 0, screen := .off, lamp := s.lamp p i }) ∧
      (s.roster.current p = none → calm → i.state = .awake →
        ∃ audio : Audio,
          s.resolve p = some
            { video := video, audio := audio, gain := s.gain p b none audio
              screen := if i.idle then .dim else .on
              lamp := s.lamp p i } ∧
          (i.program = none → audio = .silent) ∧
          ∀ c : Program, i.program = some c →
            ((s.programFeed c).state ≠ .active → audio = .silent) ∧
            ((s.programFeed c).state = .active → ∃ k : Nat, audio = .program c k ∧
              ∀ d : Descriptor, (s.programFeed c).desc = some d →
                (i.language ∉ d.languages → k = 0) ∧
                (i.language ∈ d.languages →
                  d.languages[k]? = some i.language ∧ ∀ m : Nat, m < k → d.languages[m]? ≠ some i.language)))

/-- The current announcement of a berth is on the air with the berth in its audience, and every other record on the air
whose audience contains the berth ranks below it (R71, 02 R33). -/
def Obligations.CurrentAnnouncement : Prop :=
  ∀ (s : State) (p : Port), s.roster.Lawful →
    (s.roster.current p = none ↔
      ∀ h : Handle, ∀ a ∈ s.roster.rec? h, ¬(a.onAir = true ∧ p ∈ a.audience)) ∧
    ∀ (a : Ann) (c : Channel), s.roster.current p = some (a, c) →
      ∃ h : Handle, s.roster.rec? h = some a ∧ a.onAir = true ∧ p ∈ a.audience ∧ a.channel = some c ∧
        ∀ g : Handle, g ≠ h → ∀ b ∈ s.roster.rec? g, b.onAir = true → p ∈ b.audience → s.roster.Outranks h g

/-- The gain rows of R38 and the effective ceiling of R37, and the law they uphold: a berth's desired gain exceeds its
effective ceiling only while the alert is ACTIVE, while its current announcement is of class SAFETY, or while it is in
RINGING_2. -/
def Obligations.GainRows : Prop :=
  (∀ (s : State) (p : Port) (b : Berth) (current : Option Ann) (audio : Audio) (r : Ramp),
    let start := b.image.ceiling.getD (if s.quiet = .day then s.policy.dayCeiling else s.policy.quietCeiling)
    let ceiling :=
      if s.quiet = .quiet ∧ s.ports[p].headphones = false then min start s.policy.speakerCeiling else start
    s.ceiling p b.image = ceiling ∧
    (b.ramp = some r →
      s.gain p b current audio =
        if s.alert.state = .active then s.policy.alertGain
        else if ∃ a ∈ current, a.cls = .safety then max b.image.volume s.policy.safetyGain
        else if audio = .wake ∧ b.image.wake = .ringing2 then r.gain
        else if audio = .wake ∧ b.image.wake = .ringing1 then min r.gain ceiling
        else min b.image.volume ceiling) ∧
    (b.ramp = none → audio ≠ .wake →
      s.gain p b current audio =
        if s.alert.state = .active then s.policy.alertGain
        else if ∃ a ∈ current, a.cls = .safety then max b.image.volume s.policy.safetyGain
        else min b.image.volume ceiling)) ∧
  ∀ (s : State) (p : Port) (b : Berth) (d : Presentation), s.slots[p] = some b → s.resolve p = some d →
    s.ceiling p b.image < d.gain →
      s.alert.state = .active ∨ (∃ a c, s.roster.current p = some (a, c) ∧ a.cls = .safety) ∨
        b.image.wake = .ringing2

/-- The lamp of R39. -/
def Obligations.LampRule : Prop :=
  ∀ (s : State) (p : Port) (b : Berth) (d : Presentation), s.ports[p].state = .active → s.slots[p] = some b →
    s.resolve p = some d →
      d.lamp =
        if s.alert.state = .active then .blink
        else if b.image.lamp = .off then .off
        else if b.image.lamp = .on then .on
        else if b.image.lamp = .blink then .blink
        else if b.image.state = .waking ∨ ∃ c, s.callOf p = some c ∧ c.state = .pending then .blink
        else if ∃ c, s.callOf p = some c ∧ c.state = .attended then .on
        else .off

/-- While the alert is ACTIVE or RELEASED, no desired presentation carries program video or program audio (R34). -/
def Obligations.NoProgramDuringAlert : Prop :=
  ∀ (s : State) (p : Port) (d : Presentation), s.alert.state ≠ .clear → s.resolve p = some d →
    d.video = none ∧ ∀ (c : Program) (k : Nat), d.audio ≠ .program c k

/-- What a normal Poll carries and what it leaves in the port record: the table of R44 with the versions of R43. -/
def Obligations.DirectiveRule : Prop :=
  ∀ (r : PortRec) (d : Presentation), r.desired = some d →
    let next : Nat := match r.lastSent with
      | none => 1
      | some v => if v.version = 255 then 1 else v.version + 1
    ((∃ v, r.acked = some v ∧ v.pres = d) → r.directive = none ∧ r.sent = r) ∧
    ((∀ v ∈ r.acked, v.pres ≠ d) → ∀ v, r.lastSent = some v → v.pres = d →
      r.directive = some v ∧ r.sent = r) ∧
    ((∀ v ∈ r.acked, v.pres ≠ d) → (∀ v ∈ r.lastSent, v.pres ≠ d) →
      r.directive = some { version := next, pres := d } ∧
      r.sent = { r with lastSent := some { version := next, pres := d } })

/-- The acknowledgement a good Response carries (R45). -/
def Obligations.AcknowledgementRule : Prop :=
  ∀ (r : PortRec) (version : Option Nat),
    (∀ v : Versioned, r.lastSent = some v → version = some v.version →
      r.acknowledge version = { r with acked := some v }) ∧
    ((r.lastSent = none ∨ version = none ∨ ∃ v n, r.lastSent = some v ∧ version = some n ∧ n ≠ v.version) →
      r.acknowledge version = r)

/-! ### Announcements -/

/-- ANNOUNCE (R51 to R53): BAD_TARGET, ROSTER_FULL, else the admission into the lowest FREE slot of 0..14, owing the OPEN
berths that match the target and the language filter. A record with an owed set joins: where the wait list had been served,
it starts its lead-in on the lowest-numbered FREE channel, or on what its victim gives up, or stays QUEUED
(`Desk.Joined`). -/
def Obligations.Announce : Prop :=
  ∀ (items : List Item) (s : State) (q : AnnounceParams), announceParams items = some q →
    (q.target.judge = none → Replies (exec (.announce items) s) s 0x20#8 .badTarget []) ∧
    ∀ target : Target, q.target.judge = some target →
      ((∀ h : Handle, h.val < 15 → s.roster.rec? h ≠ none) →
        Replies (exec (.announce items) s) s 0x20#8 .rosterFull []) ∧
      ∀ h : Handle, h.val < 15 → s.roster.rec? h = none → (∀ g : Handle, g < h → s.roster.rec? g ≠ none) →
        ∃ (t : State) (a : Ann) (owed : PortSet),
          exec (.announce items) s = .next t ∧ owed.Nodup ∧
          (∀ p : Port, p ∈ owed ↔ ∃ b, s.slots[p] = some b ∧ (∀ l ∈ q.language, b.image.language = l) ∧
            match target with
            | .all => True
            | .zones m => m.getLsbD s.ports[p].zone.val = true
            | .berths ps => p ∈ ps
            | .stop x => b.image.stop = some x) ∧
          (a.tag = q.tag ∧ a.cls = q.cls ∧ a.source = q.source ∧ a.target = target ∧ a.stop = q.stop ∧
            a.language = q.language ∧ a.leadIn = q.leadIn ∧ a.chime = q.chime ∧ a.duration = q.duration ∧
            a.budget = q.budget ∧ a.gap = q.gap) ∧
          s.Admits t h a owed ∧
          ∃ b : Ann, t.roster.rec? h = some b ∧
            (b.state = .done → t.events.flag .announceDone = true) ∧
            t.reply = some { code := 0x20#8, status := .ok
                             data := [byteOf h.val, bytes4 b.number.toNat, byteOf b.admitted, byteOf b.state.code] }

/-- END_ANNOUNCE by the record's state (R63). -/
def Obligations.EndAnnounce : Prop :=
  ∀ (items : List Item) (s : State) (h : Handle), oneHandle items = some h →
    (s.roster.rec? h = none → Replies (exec (.endAnnounce items) s) s 0x21#8 .notFound []) ∧
    ∀ a : Ann, s.roster.rec? h = some a →
      (a.state = .done → Replies (exec (.endAnnounce items) s) s 0x21#8 .wrongState []) ∧
      (a.state ≠ .done → ∃ (t : State) (b : Ann),
        exec (.endAnnounce items) s = .next t ∧ s.SlotEnds t h b ∧
        t.reply = some { code := 0x21#8, status := .ok, data := [byteOf b.state.code] } ∧
        b = match a.state with
          | .leadIn => a.afterPlayout []
          | .playing => a.afterPlayout a.joined
          | _ => a.ended .ended)

/-- CANCEL_ANNOUNCE and RELEASE_ANNOUNCE (R64, R65). -/
def Obligations.CancelAndRelease : Prop :=
  ∀ (items : List Item) (s : State) (h : Handle), oneHandle items = some h →
    (s.roster.rec? h = none →
      Replies (exec (.cancelAnnounce items) s) s 0x22#8 .notFound [] ∧
      Replies (exec (.releaseAnnounce items) s) s 0x23#8 .notFound []) ∧
    ∀ a : Ann, s.roster.rec? h = some a →
      (a.state = .done → Replies (exec (.cancelAnnounce items) s) s 0x22#8 .wrongState []) ∧
      (a.state ≠ .done → ∃ t : State, exec (.cancelAnnounce items) s = .next t ∧
        s.SlotEnds t h (a.ended .cancelled) ∧ t.reply = some { code := 0x22#8, status := .ok, data := [] }) ∧
      (a.state ≠ .done → Replies (exec (.releaseAnnounce items) s) s 0x23#8 .wrongState []) ∧
      (a.state = .done →
        Takes (exec (.releaseAnnounce items) s)
          { s with roster :=
            { recs := s.roster.recs.set h.val none, order := s.roster.order.filter (· != h)
              counter := s.roster.counter } }
          0x23#8 fun _ => [])

/-- The ends of a playout (R75 to R77): at the duration limit, or at a good END frame on its ACTIVE feed, with the joined
berths reached; at the stall of its feed, with nobody reached. The feed's own move is that of 11 R166 and R167. A
duration expiry that is late, or of a slot that holds no PLAYING record, changes nothing (logs 10, 13). -/
def Obligations.PlayoutEnds : Prop :=
  (∀ (s : State) (h : Handle) (late : Bool), (late = true ∨ ∀ a ∈ s.roster.rec? h, a.state ≠ .playing) →
    exec (.durationExpiry ⟨h, late⟩) s = .next s) ∧
  ∀ (s : State) (h : Handle) (a : Ann), s.roster.rec? h = some a → a.state = .playing →
    (∃ t : State, exec (.durationExpiry ⟨h, false⟩) s = .next t ∧ s.SlotEnds t h (a.afterPlayout a.joined) ∧
      t.reply = s.reply) ∧
    (s.roster.Lawful → ∀ f : FeedIx, a.source.feed = some f → s.feeds[f].state = .active →
      (∀ bytes : List Byte, readFeedFrame bytes = some ⟨f, .endOfItem, []⟩ →
        ∃ t : State, exec (.endFrame bytes) s = .next t ∧ t.reply = s.reply ∧
          { s with feeds := s.feeds.set f.val { s.feeds[f] with state := .waiting, timer := none } }.SlotEnds t h
            (a.afterPlayout a.joined)) ∧
      (s.feeds[f].timer.isSome = true →
        ∃ t : State, exec (.stallTimerExpiry ⟨f, false⟩) s = .next t ∧ t.reply = s.reply ∧
          { s with
            feeds := s.feeds.set f.val { s.feeds[f] with state := .stalled, timer := none }
            events := { s.events with coach := s.events.coach ||| CoachKind.feedStalled.mark } }.SlotEnds t h
            (a.afterPlayout [])))

/-- The gap expiry (R78): the record is QUEUED again and joins the wait list; where that had been served, it starts its lead-in
on the lowest-numbered FREE channel, or on what its victim gives up, or stays QUEUED (`Desk.Joined`). Its number, counts and
repeats left are kept, and no other record is reached or withdrawn. An expiry that is late, or of a slot that holds no
record in GAP, changes nothing (logs 10, 13). -/
def Obligations.GapEnds : Prop :=
  (∀ (s : State) (h : Handle) (late : Bool), (late = true ∨ ∀ a ∈ s.roster.rec? h, a.state ≠ .gap) →
    exec (.gapExpiry ⟨h, late⟩) s = .next s) ∧
  ∀ (s : State) (h : Handle) (a : Ann), s.roster.rec? h = some a → a.state = .gap → a.Shaped →
    let q : Ann := { a with state := .queued }
    let r : Roster := { s.roster with recs := s.roster.recs.set h.val (some q) }
    ∃ (t : State) (b : Ann), exec (.gapExpiry ⟨h, false⟩) s = .next t ∧ s.Joins t r h q ∧ t.reply = s.reply ∧
      t.roster.rec? h = some b ∧ q.Kept b ∧ (b.state = .queued ∨ b.state = .leadIn) ∧
      s.roster.OthersKept t.roster h ∧ t.roster.order = s.roster.order ∧ t.roster.counter = s.roster.counter

/-- A grant into LEAD_IN (R69, R70): owed berths that the class may not reach are withheld, the audience is the rest on ACTIVE
ports, and the lead-in starts on the channel. The lead-in end (R72): PLAYING with the berths of the audience whose
acknowledged and desired audio both carry the channel, or, on an empty audience, the accounting with nobody reached. The
departures (R74): whenever the Resolver has recomputed, a PLAYING record's joined set keeps the berths whose desired audio
carries the channel, and no other field of any record moves. A lead-in end that is late, or of a slot that holds no record
in LEAD_IN, changes nothing (logs 10, 13). -/
def Obligations.LeadIn : Prop :=
  (∀ (r : Roster) (ports : Vector PortRec 40),
    (r.depart ports).order = r.order ∧ (r.depart ports).counter = r.counter ∧
    ∀ h : Handle, (r.depart ports).rec? h = (r.rec? h).map fun a =>
      if a.state = .playing then
        { a with joined := a.joined.filter fun p =>
            a.channel.any fun c => ports[p].desired.any fun d => decide (d.audio = .announce c) }
      else a) ∧
  (∀ (s : State) (h : Handle) (late : Bool), (late = true ∨ ∀ a ∈ s.roster.rec? h, a.state ≠ .leadIn) →
    exec (.leadInEnd ⟨h, late⟩) s = .next s) ∧
  (∀ (s : State) (c : Channel) (a : Ann),
    let eligible (p : Port) : Bool :=
      match s.slots[p] with
      | none => false
      | some b =>
        match b.image.state, a.cls with
        | .awake, _ => true
        | .waking, _ => true
        | .night, .safety => true
        | .night, .driver => s.policy.driverNight
        | .night, .stop => b.image.stop.isSome && decide (b.image.stop = a.stop)
        | .night, .service => false
    let owed := a.owed.filter eligible
    a.startLeadIn s c =
      { a with
        state := .leadIn, channel := some c, owed := owed
        withheld := a.withheld + (a.owed.length - owed.length)
        audience := owed.filter fun p => decide (s.ports[p].state = .active)
        joined := [], granted := true }) ∧
  (∀ (s : State) (h : Handle) (a : Ann), s.roster.rec? h = some a → a.state = .leadIn →
    (a.audience ≠ [] → ∀ c : Channel, a.channel = some c →
      Happens (exec (.leadInEnd ⟨h, false⟩) s)
        { s with roster := s.roster.put h { a with
          state := .playing
          joined := a.audience.filter fun p =>
            (s.ports[p].acked.any fun v => decide (v.pres.audio = .announce c)) &&
              s.ports[p].desired.any fun d => decide (d.audio = .announce c) } }) ∧
    (a.audience = [] → a.joined = [] →
      ∃ t : State, exec (.leadInEnd ⟨h, false⟩) s = .next t ∧ s.SlotEnds t h (a.afterPlayout []) ∧ t.reply = s.reply))

/-- The Allocator (R58, R60, R61). The scan offers the waiting records one after another in the order of rank; each is granted,
on the lowest-numbered FREE channel, exactly if a channel is FREE and its source is FREE or a TONE, and else passed over;
and it leaves the wait list served. The join of a QUEUED record is the scan, and, if that does not grant it, the preemption
of its victim, its own grant and the scan that follows; where every other waiting record was served, the join grants or
preempts nothing more. The victim is the holder of the record's exclusive source, or else the lowest-ranked record on the
air, provided it ranks below. -/
def Obligations.AllocatorRules : Prop :=
  (∀ (env : State) (d : Desk), d.roster.Lawful →
    (d.scan env).roster.Served ∧
    ∃ l : List Handle, l.Nodup ∧ (∀ h : Handle, h ∈ l ↔ ∃ a ∈ d.roster.rec? h, a.waits = true) ∧
      l.Pairwise d.roster.Outranks ∧ Desk.Serves env l d (d.scan env)) ∧
  (∀ (env : State) (d : Desk) (h : Handle) (a : Ann), d.roster.Lawful → d.roster.rec? h = some a → a.state = .queued →
    let e := d.scan env
    ((∀ b ∈ e.roster.rec? h, b.waits = false) → d.join env h = e) ∧
    ((∃ b ∈ e.roster.rec? h, b.waits = true) → e.roster.victim h = none → d.join env h = e) ∧
    ((∃ b ∈ e.roster.rec? h, b.waits = true) → ∀ v : Handle, e.roster.victim h = some v →
      ∃ (b : Ann) (g : Desk), e.roster.rec? v = some b ∧ b.onAir = true ∧ (e.preempt v b).Granted env h g ∧
        d.join env h = g.scan env) ∧
    (((∃ c, d.roster.LowestFree c) → ∀ g : Handle, g ≠ h → ∀ b ∈ d.roster.rec? g, b.waits = true →
        ¬d.roster.SourceFree b.source) → d.Joined env h a.source (d.join env h))) ∧
  ∀ (r : Roster) (h : Handle) (a : Ann), r.Lawful → r.rec? h = some a → a.waits = true →
    (∀ (g : Handle) (b : Ann), a.source.exclusive = true → r.rec? g = some b → b.onAir = true → b.source = a.source →
      (r.Outranks h g → r.victim h = some g) ∧ (r.Outranks g h → r.victim h = none)) ∧
    ((a.source.exclusive = false ∨ ∀ g : Handle, ∀ b ∈ r.rec? g, b.onAir = true → b.source ≠ a.source) →
      (∀ v : Handle, r.victim h = some v → r.Outranks h v ∧ (∃ b, r.rec? v = some b ∧ b.onAir = true) ∧
        ∀ g : Handle, g ≠ v → ∀ b ∈ r.rec? g, b.onAir = true → r.Outranks g v) ∧
      (r.victim h = none → ∀ (g : Handle) (b : Ann), r.rec? g = some b → b.onAir = true →
        (∀ k : Handle, k ≠ g → ∀ e ∈ r.rec? k, e.onAir = true → r.Outranks k g) → ¬r.Outranks h g))

/-! ### Night policy -/

/-- SET_POLICY (R87): every named setting takes its new value together; nothing else moves but what is computed from the
settings. That the data is the quiet mode and the eight settings as nine data items is the model's reading (log 5). -/
def Obligations.SetPolicy : Prop :=
  ∀ (items : List Item) (s : State) (c : PolicyChange), policyParams items = some c →
    let p : Policy :=
      { dayCeiling := c.dayCeiling.getD s.policy.dayCeiling
        quietCeiling := c.quietCeiling.getD s.policy.quietCeiling
        speakerCeiling := c.speakerCeiling.getD s.policy.speakerCeiling
        safetyGain := c.safetyGain.getD s.policy.safetyGain
        alertGain := c.alertGain.getD s.policy.alertGain
        reload := c.reload.getD s.policy.reload
        unit := c.unit.getD s.policy.unit
        driverNight := c.driverNight.getD s.policy.driverNight }
    Takes (exec (.setPolicy items) s) { s with policy := p } 0x30#8 fun _ =>
      [byteOf s.quiet.code, byteOf p.dayCeiling, byteOf p.quietCeiling, byteOf p.speakerCeiling, byteOf p.safetyGain,
        byteOf p.alertGain, byteOf p.reload, byteOf p.unit.code, flagByte p.driverNight]

/-- READ_POLICY (R89, 13 R181): it carries no parameters, answers the quiet mode and the eight settings, and changes nothing.
That they are nine data items is the model's reading (log 5). -/
def Obligations.ReadPolicy : Prop :=
  ∀ (items : List Item) (s : State),
    if items = [] then
      Replies (exec (.readPolicy items) s) s 0x31#8 .ok
        [byteOf s.quiet.code, byteOf s.policy.dayCeiling, byteOf s.policy.quietCeiling, byteOf s.policy.speakerCeiling,
          byteOf s.policy.safetyGain, byteOf s.policy.alertGain, byteOf s.policy.reload, byteOf s.policy.unit.code,
          flagByte s.policy.driverNight]
    else Replies (exec (.readPolicy items) s) s 0x31#8 .badParam []

/-- SET_QUIET and LIGHTS_OUT (R94, R95): their refusals in order, the berths they move to NIGHT, one claim each, and the
count of them. -/
def Obligations.QuietRequests : Prop :=
  ∀ (items : List Item) (s : State), s.BerthsLawful →
    let asleep (b : Berth) : Berth := { b with
      image := { b.image with state := .night, idle := false, generation := b.image.generation + 1 }
      timer := none }
    let move (f : Berth → Bool) : State :=
      s.putSlots (s.slots.map (Option.map fun b => if f b then asleep b else b))
    let count (f : Berth → Bool) : Nat := (allPorts.filter fun p => (s.slots[p]).any f).length
    let idle (b : Berth) : Bool := decide (b.image.state = .awake) && b.image.idle
    let awake (b : Berth) : Bool := decide (b.image.state = .awake)
    (quietParams items = none → Replies (exec (.setQuiet items) s) s 0x32#8 .badParam []) ∧
    (quietParams items = some .quiet →
      Takes (exec (.setQuiet items) s) { move idle with quiet := .quiet } 0x32#8 fun _ => [[1#8], byteOf (count idle)]) ∧
    (quietParams items = some .day →
      Takes (exec (.setQuiet items) s) { s with quiet := .day } 0x32#8 fun _ => [[0#8], [0#8]]) ∧
    (items = [] → s.alert.state ≠ .clear → Replies (exec (.lightsOut items) s) s 0x33#8 .alertActive []) ∧
    (items = [] → s.alert.state = .clear → s.quiet = .day →
      Replies (exec (.lightsOut items) s) s 0x33#8 .wrongMode []) ∧
    (items = [] → s.alert.state = .clear → s.quiet = .quiet →
      Takes (exec (.lightsOut items) s) (move awake) 0x33#8 fun _ => [byteOf (count awake)])

/-- The expiry of a RUNNING inactivity timer (R92): idle in DAY, NIGHT in QUIET, the timer STOPPED after. An expiry that is late
(R93), or of a STOPPED timer, changes nothing (logs 10, 13). -/
def Obligations.InactivityExpires : Prop :=
  ∀ (s : State) (p : Port), s.BerthsLawful →
    (∀ late : Bool, (late = true ∨ ∀ b ∈ s.slots[p], b.timer = none) → exec (.inactivityExpiry ⟨p, late⟩) s = .next s) ∧
    ∀ b : Berth, s.slots[p] = some b → b.timer.isSome = true →
      (s.quiet = .day →
        Happens (exec (.inactivityExpiry ⟨p, false⟩) s)
          (s.putSlots (s.slots.set p.val (some { b with
            image := { b.image with idle := true, generation := b.image.generation + 1 }
            timer := none })))) ∧
      (s.quiet = .quiet →
        Happens (exec (.inactivityExpiry ⟨p, false⟩) s)
          (s.putSlots (s.slots.set p.val (some { b with
            image := { b.image with state := .night, generation := b.image.generation + 1 }
            timer := none }))))

/-! ### Wake calls -/

/-- ROUTE_PROGRESS (R103 to R106): APPROACH and ARRIVE start RINGING_1 and WAKING on the berths that match, with the ramp from
the active profile, and WAKE_LATE for those ARRIVE starts; DEPART sets OVERSTAY on every berth of the stop, and those
ringing become UNANSWERED and AWAKE, with WAKE_UNANSWERED, their ramps stopped and their timers loaded while CLEAR. -/
def Obligations.RouteProgress : Prop :=
  (∀ (items : List Item) (s : State) (stop minutes : Nat),
    let ring (b : Berth) : Berth :=
      { image := { b.image with
          wake := .ringing1, state := .waking, idle := false, generation := b.image.generation + 1 }
        timer := none
        button := .idle
        ramp := some { gain := s.wake.active.startGain, stepMs := s.wake.active.stepMs
                       answerS := s.wake.active.answerS } }
    let armed (b : Berth) : Bool := decide (b.image.stop = some stop) && decide (b.image.wake = .armed)
    let due (b : Berth) : Bool := armed b && b.image.lead.any fun lead => decide (minutes ≤ lead)
    let start (f : Berth → Bool) : State := s.putSlots (s.slots.map (Option.map fun b => if f b then ring b else b))
    let count (f : Berth → Bool) : Nat := (allPorts.filter fun p => (s.slots[p]).any f).length
    (routeParams items = some { kind := .approach, stop := stop, minutes := minutes } →
      Takes (exec (.routeProgressApproach items) s) (start due) 0x40#8 fun _ => [byteOf (count due)]) ∧
    (routeParams items = some { kind := .arrive, stop := stop, minutes := 0 } →
      Takes (exec (.routeProgressArrive items) s)
        { start armed with
          ports := Vector.ofFn fun p : Port =>
            if (s.slots[p]).any armed then
              { s.ports[p] with flags := s.ports[p].flags ||| BerthKind.wakeLate.mark }
            else s.ports[p] }
        0x40#8 fun _ => [byteOf (count armed)])) ∧
  (∀ (items : List Item) (s : State) (stop : Nat), s.BerthsLawful →
    routeParams items = some { kind := .depart, stop := stop, minutes := 0 } →
    let leaves (b : Berth) : Bool := decide (b.image.stop = some stop)
    let rings (b : Berth) : Bool :=
      leaves b && (decide (b.image.wake = .ringing1) || decide (b.image.wake = .ringing2))
    let ended (b : Berth) : Berth := { b with
      image := { b.image with wake := .unanswered, state := .awake, generation := b.image.generation + 1 }
      timer := if s.alert.state = .clear then some ⟨s.policy.reload, s.policy.unit⟩ else none
      ramp := none }
    let count (f : Berth → Bool) : Nat := (allPorts.filter fun p => (s.slots[p]).any f).length
    Takes (exec (.routeProgressDepart items) s)
      (State.copyIfIdle { s.putSlots (s.slots.map (Option.map fun b => if rings b then ended b else b)) with
        ports := Vector.ofFn fun p : Port =>
          { s.ports[p] with
            flags := s.ports[p].flags |||
              ((if (s.slots[p]).any leaves then BerthKind.overstay.mark else 0#10) |||
                if (s.slots[p]).any rings then BerthKind.wakeUnanswered.mark else 0#10) } })
      0x40#8 fun _ => [byteOf (count leaves), byteOf (count rings)])

/-- SET_WAKE_PROFILE and READ_WAKE_PROFILE (R101, R102): the pending profile is written, and copied at once while no ramp
runs; a waiting copy is made when the last ramp has stopped. That the active profile comes first in the data is the model's
reading (log 5). -/
def Obligations.WakeProfiles : Prop :=
  (∀ (items : List Item) (s : State) (c : ProfileChange), profileParams items = some c →
    let p : Profile :=
      { startGain := c.startGain.getD s.wake.pending.startGain
        stage1Gain := c.stage1Gain.getD s.wake.pending.stage1Gain
        stage2Gain := c.stage2Gain.getD s.wake.pending.stage2Gain
        stepMs := c.stepMs.getD s.wake.pending.stepMs
        stepSize := c.stepSize.getD s.wake.pending.stepSize
        answerS := c.answerS.getD s.wake.pending.answerS }
    (¬(p.startGain ≤ p.stage1Gain ∧ p.stage1Gain ≤ p.stage2Gain) →
      Replies (exec (.setWakeProfile items) s) s 0x41#8 .badParam []) ∧
    (p.startGain ≤ p.stage1Gain → p.stage1Gain ≤ p.stage2Gain →
      ((∃ q : Port, ∃ b ∈ s.slots[q], b.ramp.isSome = true) →
        Takes (exec (.setWakeProfile items) s) { s with wake := { s.wake with pending := p, waiting := true } } 0x41#8
          fun _ => [s.wake.active.bytes, p.bytes, [1#8]]) ∧
      ((∀ q : Port, ∀ b ∈ s.slots[q], b.ramp = none) →
        Takes (exec (.setWakeProfile items) s) { s with wake := { active := p, pending := p, waiting := false } } 0x41#8
          fun _ => [p.bytes, p.bytes, [0#8]]))) ∧
  (∀ s : State, Replies (exec (.readWakeProfile []) s) s 0x42#8 .ok
    [s.wake.active.bytes, s.wake.pending.bytes, flagByte s.wake.waiting]) ∧
  ∀ s : State, s.copyIfIdle =
    if s.wake.waiting = true ∧ ∀ q : Port, ∀ b ∈ s.slots[q], b.ramp = none then
      { s with wake := { active := s.wake.pending, pending := s.wake.pending, waiting := false } }
    else s

/-- WAKE_CANCEL (R110): BAD_PARAM, NOT_OPEN, WRONG_STATE, else CANCELLED; from a ringing call also AWAKE, the ramp stopped, and WAKE
removed from the reasons of the port's call. No event flag is set. -/
def Obligations.WakeCancel : Prop :=
  (∀ (items : List Item) (s : State), onePort items = none →
    Replies (exec (.wakeCancel items) s) s 0x43#8 .badParam []) ∧
  ∀ (items : List Item) (s : State) (p : Port), onePort items = some p → s.BerthsLawful →
    (s.slots[p] = none → Replies (exec (.wakeCancel items) s) s 0x43#8 .notOpen []) ∧
    ∀ b : Berth, s.slots[p] = some b →
      ((b.image.wake = .none ∨ b.image.wake = .answered ∨ b.image.wake = .unanswered ∨ b.image.wake = .cancelled) →
        Replies (exec (.wakeCancel items) s) s 0x43#8 .wrongState []) ∧
      (b.image.wake = .armed →
        Takes (exec (.wakeCancel items) s)
          (s.putSlots (s.slots.set p.val (some { b with
            image := { b.image with wake := .cancelled, generation := b.image.generation + 1 } })))
          0x43#8 fun t => [slotBytes t.slots[p]]) ∧
      (b.image.wake = .ringing1 ∨ b.image.wake = .ringing2 →
        Takes (exec (.wakeCancel items) s)
          (State.copyIfIdle { s.putSlots (s.slots.set p.val (some
            { image := { b.image with wake := .cancelled, state := .awake, generation := b.image.generation + 1 }
              timer := if s.alert.state = .clear then some ⟨s.policy.reload, s.policy.unit⟩ else none
              button := b.button
              ramp := none })) with
            calls := s.calls.filterMap fun c =>
              if c.port = p then (if c.passenger then some { c with wake := false } else none) else some c })
          0x43#8 fun t => [slotBytes t.slots[p]])

/-- The timers of a running ramp (R102, R103, R107, R108): a step boundary, with a waiting copy made first; the stage-1
expiry, which raises a call with WAKE; and the stage-2 expiry. One that is late, of a ramp that does not run, or of the other
stage, changes nothing (logs 10, 13). -/
def Obligations.RampTimers : Prop :=
  (∀ (s : State) (p : Port) (late : Bool), (late = true ∨ ∀ b ∈ s.slots[p], b.ramp = none) →
    exec (.stepBoundary ⟨p, late⟩) s = .next s ∧ exec (.stage1Expiry ⟨p, late⟩) s = .next s ∧
      exec (.stage2Expiry ⟨p, late⟩) s = .next s) ∧
  ∀ (s : State) (p : Port) (b : Berth) (r : Ramp), s.BerthsLawful → s.slots[p] = some b → b.ramp = some r →
    (let w : WakeUnit :=
        if s.wake.waiting then { active := s.wake.pending, pending := s.wake.pending, waiting := false } else s.wake
      let stageEnd := if b.image.wake = .ringing2 then w.active.stage2Gain else w.active.stage1Gain
      let gain :=
        if r.gain < stageEnd then min (r.gain + w.active.stepSize) stageEnd
        else max (r.gain - w.active.stepSize) stageEnd
      Happens (exec (.stepBoundary ⟨p, false⟩) s)
        { s with
          wake := w
          slots := s.slots.set p.val (some { b with
            ramp := some { gain := gain, stepMs := w.active.stepMs, answerS := r.answerS } }) }) ∧
    (b.image.wake = .ringing1 →
      exec (.stage2Expiry ⟨p, false⟩) s = .next s ∧
      Happens (exec (.stage1Expiry ⟨p, false⟩) s)
        ((s.putSlots (s.slots.set p.val (some { b with
          image := { b.image with wake := .ringing2, generation := b.image.generation + 1 }
          ramp := some { gain := r.gain, stepMs := s.wake.active.stepMs
                         answerS := s.wake.active.answerS } }))).raiseCall p .wake)) ∧
    (b.image.wake = .ringing2 →
      exec (.stage1Expiry ⟨p, false⟩) s = .next s ∧
      Happens (exec (.stage2Expiry ⟨p, false⟩) s)
        (State.copyIfIdle { s.putSlots (s.slots.set p.val (some
          { image := { b.image with wake := .unanswered, state := .awake, generation := b.image.generation + 1 }
            timer := if s.alert.state = .clear then some ⟨s.policy.reload, s.policy.unit⟩ else none
            button := b.button
            ramp := none })) with
          ports := s.ports.set p.val { s.ports[p] with
            flags := s.ports[p].flags ||| BerthKind.wakeUnanswered.mark } }))

/-! ### Button and calls -/

/-- A call is raised (R120), a window expires into a PASSENGER call (R118), and the coach clock ticks (R119). A window expiry
that is late, or of a window that does not run, changes nothing (logs 10, 13). -/
def Obligations.CallRaises : Prop :=
  (∀ (s : State) (p : Port) (r : CallReason),
    let flagged := s.ports.set p.val { s.ports[p] with flags := s.ports[p].flags ||| BerthKind.callRaised.mark }
    let raised : List Call := s.calls.map fun c =>
      if c.port = p then
        { c with passenger := c.passenger || decide (r = .passenger), wake := c.wake || decide (r = .wake)
                 state := .pending }
      else c
    (s.callOf p = none →
      s.raiseCall p r = { s with
        ports := flagged
        calls := s.calls ++ [{ port := p, passenger := decide (r = .passenger), wake := decide (r = .wake)
                               state := .pending, raised := s.clock }] }) ∧
    (∀ c : Call, s.callOf p = some c →
      ((match r with
          | .passenger => c.passenger
          | .wake => c.wake) = false → s.raiseCall p r = { s with ports := flagged, calls := raised }) ∧
      ((match r with
          | .passenger => c.passenger
          | .wake => c.wake) = true → s.raiseCall p r = { s with calls := raised }))) ∧
  (∀ (s : State) (p : Port) (b : Berth) (ms : Nat), s.slots[p] = some b → b.button = .armed ms →
    Happens (exec (.windowExpiry ⟨p, false⟩) s)
      (State.raiseCall p .passenger { s with slots := s.slots.set p.val (some { b with button := .idle }) })) ∧
  (∀ (s : State) (p : Port) (late : Bool), (late = true ∨ ∀ b ∈ s.slots[p], b.button = .idle) →
    exec (.windowExpiry ⟨p, late⟩) s = .next s) ∧
  ∀ s : State, exec .coachClockTick s = .next { s with clock := s.clock + 1#32 }

/-- SET_BUTTON_WINDOW, CALL_NEXT and CALL_LIST (R115, R122); CALL_ATTEND and CALL_CLOSE (R123): BAD_PARAM, NOT_FOUND,
WRONG_STATE, else ATTENDED in place, or removed. An entry is one data item (log 5). -/
def Obligations.CallRequests : Prop :=
  (∀ (items : List Item) (s : State),
    (∀ ms : Nat, windowParams items = some ms →
      Takes (exec (.setButtonWindow items) s) { s with windowMs := ms } 0x50#8 fun _ => [bytes2 ms]) ∧
    (items = [] →
      ((∀ c ∈ s.calls, c.state ≠ .pending) → Replies (exec (.callNext items) s) s 0x51#8 .ok [[]]) ∧
      ∀ (before after : List Call) (c : Call), s.calls = before ++ c :: after → c.state = .pending →
        (∀ e ∈ before, e.state ≠ .pending) → Replies (exec (.callNext items) s) s 0x51#8 .ok [c.bytes]) ∧
    (callListParams items = none → Replies (exec (.callList items) s) s 0x52#8 .badParam []) ∧
    ∀ start : Nat, callListParams items = some start →
      Replies (exec (.callList items) s) s 0x52#8 .ok
        (byteOf s.calls.length :: ((s.calls.drop start).take 16).map Call.bytes)) ∧
  (∀ (items : List Item) (s : State), onePort items = none →
    Replies (exec (.callAttend items) s) s 0x53#8 .badParam [] ∧
      Replies (exec (.callClose items) s) s 0x54#8 .badParam []) ∧
  (∀ (items : List Item) (s : State) (p : Port), onePort items = some p → s.CallsLawful →
    ((∀ c ∈ s.calls, c.port ≠ p) →
      Replies (exec (.callAttend items) s) s 0x53#8 .notFound [] ∧
      Replies (exec (.callClose items) s) s 0x54#8 .notFound []) ∧
    ∀ c ∈ s.calls, c.port = p →
      (c.state = .attended → Replies (exec (.callAttend items) s) s 0x53#8 .wrongState []) ∧
      (c.state = .pending →
        Takes (exec (.callAttend items) s)
          { s with calls := s.calls.map fun e => if e.port = p then { e with state := .attended } else e }
          0x53#8 fun _ => [Call.bytes { c with state := .attended }]) ∧
      Takes (exec (.callClose items) s) { s with calls := s.calls.filter fun e => e.port != p } 0x54#8
        fun _ => [c.bytes])

/-- Presses (R113, R116, R117): how many are new, and each row of the press table; the answer discards the presses behind
it, and a VACANT slot discards all. -/
def Obligations.Presses : Prop :=
  (∀ b c : BitVec 4, newPresses (some b) c = min 3 ((16 + c.toNat - b.toNat) % 16)) ∧
  ∀ (s : State) (p : Port) (n : Nat),
    s.presses p 0 = s ∧ (s.slots[p] = none → s.presses p (n + 1) = s) ∧
    ∀ b : Berth, s.slots[p] = some b →
      let active (i : Image) : Image :=
        { i with idle := false, state := if i.state = .night then .awake else i.state }
      let pressed (f : Image → Image) (after : Button) : State :=
        s.putSlots (s.slots.set p.val (some
          { b.claim s.alert.state s.policy.load true f with button := after }))
      let flagged (k : BerthKind) : Vector PortRec 40 :=
        s.ports.set p.val { s.ports[p] with flags := s.ports[p].flags ||| k.mark }
      (b.image.state = .waking → s.BerthsLawful →
        s.presses p (n + 1) =
          State.copyIfIdle { s.putSlots (s.slots.set p.val (some
            { image := { b.image with wake := .answered, state := .awake, generation := b.image.generation + 1 }
              timer := if s.alert.state = .clear then some ⟨s.policy.reload, s.policy.unit⟩ else none
              button := .idle
              ramp := none })) with
            ports := flagged .wakeAnswered
            calls := s.calls.filterMap fun c =>
              if c.port = p then (if c.passenger then some { c with wake := false } else none) else some c }) ∧
      (b.image.state ≠ .waking → (∃ c ∈ s.calls, c.port = p) →
        s.presses p (n + 1) =
          State.presses p n { pressed active .idle with
            calls := s.calls.filter fun e => e.port != p, ports := flagged .callCancelled }) ∧
      (b.image.state ≠ .waking → (∀ c ∈ s.calls, c.port ≠ p) →
        (b.button = .idle → s.presses p (n + 1) = (pressed active (.armed s.windowMs)).presses p n) ∧
        (b.button ≠ .idle → s.alert.state = .clear →
          s.presses p (n + 1) =
            (pressed (fun i => { active i with state := .night }) .idle).presses p n) ∧
        (b.button ≠ .idle → s.alert.state ≠ .clear →
          s.presses p (n + 1) = (pressed active .idle).presses p n))

/-! ### The alert -/

/-- Alert entry by ALERT_RAISE and by a selected edge (R127 to R132); an edge that is not selected, or taken in ACTIVE,
only moves the last level. The model's own readings are that an edge to the level that stands changes nothing (log 10), that
an admission over a DONE slot 15 does not pass over the number of the record it overwrites (log 14), and the code of fresh 0
and re-armed 1 (log 5). -/
def Obligations.AlertEntry : Prop :=
  (∀ s : State, s.alert.state = .active → Replies (exec (.alertRaise []) s) s 0x60#8 .already []) ∧
  (∀ s : State, s.alert.state ≠ .active →
    ∃ (t : State) (a : Ann), exec (.alertRaise []) s = .next t ∧ s.AlertEntered t ∧
      t.roster.rec? alertSlot = some a ∧
      t.reply = some { code := 0x60#8, status := .ok
                       data := [[1#8], flagByte (s.roster.test Ann.live alertSlot), byteOf a.state.code,
                         bytes4 a.number.toNat, byteOf a.admitted] }) ∧
  ∀ (s : State) (level : Level),
    let u : State := { s with alert := { s.alert with level := level } }
    let selected : Bool := match s.alert.config.edge, level with
      | .falling, .low => true
      | .rising, .high => true
      | .both, _ => true
      | _, _ => false
    (level = s.alert.level → exec (.alertInEdge level) s = .next s) ∧
    (level ≠ s.alert.level → (selected = false ∨ s.alert.state = .active) → exec (.alertInEdge level) s = .next u) ∧
    (level ≠ s.alert.level → selected = true → s.alert.state ≠ .active →
      ∃ t : State, exec (.alertInEdge level) s = .next t ∧ u.AlertEntered t ∧ t.reply = s.reply)

/-- ALERT_CLEAR, RESUME, SET_ALERT_CONFIG and READ_ALERT (R126, R133, R134). The configuration is one data item (log 5). -/
def Obligations.AlertRequests : Prop :=
  ∀ s : State,
    (s.alert.state ≠ .active → Replies (exec (.alertClear []) s) s 0x61#8 .wrongState []) ∧
    (s.alert.state = .active →
      Takes (exec (.alertClear []) s) { s with alert := { s.alert with state := .released } } 0x61#8 fun _ => [[2#8]]) ∧
    (s.alert.state = .active → Replies (exec (.resume []) s) s 0x62#8 .alertActive []) ∧
    (s.alert.state = .clear → Replies (exec (.resume []) s) s 0x62#8 .wrongState []) ∧
    (s.alert.state = .released →
      Takes (exec (.resume []) s)
        { s with
          alert := { s.alert with state := .clear }
          slots := s.slots.map (Option.map fun b => { b with
            timer := if b.image.state = .awake ∧ b.image.idle = false then some ⟨s.policy.reload, s.policy.unit⟩
              else none }) }
        0x62#8 fun _ => [[0#8]]) ∧
    (∀ (items : List Item) (c : AlertChange), alertParams items = some c →
      let config : AlertConfig :=
        { edge := c.edge.getD s.alert.config.edge
          source := c.source.getD s.alert.config.source
          budget := c.budget.getD s.alert.config.budget
          gap := c.gap.getD s.alert.config.gap
          duration := c.duration.getD s.alert.config.duration }
      (config.source = .mic ∧ 0 < config.budget → Replies (exec (.setAlertConfig items) s) s 0x63#8 .badParam []) ∧
      (¬(config.source = .mic ∧ 0 < config.budget) →
        Takes (exec (.setAlertConfig items) s) { s with alert := { s.alert with config := config } } 0x63#8
          fun _ => [config.bytes])) ∧
    Replies (exec (.readAlert []) s) s 0x64#8 .ok
      [byteOf s.alert.state.code, s.alert.config.bytes, byteOf (levelCode s.alert.level),
        match s.roster.rec? alertSlot with
        | none => []
        | some a => byteOf a.state.code]

/-! ### Berth ports -/

/-- PORT_POWER (R142, R143): PORT_BUSY, WRONG_STATE in EMPTY, else the row of the table. An ON at whose closing the
power-fault sense stands asserted ends as R141 gives. The three data items are the model's reading (log 5). -/
def Obligations.PortPower : Prop :=
  ∀ (items : List Item) (s : State) (q : PowerParams), powerParams items = some q →
    let p := q.port
    let r := s.ports[p]
    let done (v : PowerRequest) : PortRec :=
      { r with request := v, outcome := some .done, flags := r.flags ||| BerthKind.portCommandDone.mark }
    let put (r' : PortRec) : State := { s with ports := s.ports.set p.val r' }
    (r.command.isSome = true → Replies (exec (.portPower items) s) s 0x70#8 .portBusy []) ∧
    (r.command = none → r.state = .empty → Replies (exec (.portPower items) s) s 0x70#8 .wrongState []) ∧
    (r.command = none → (r.state = .present ∨ r.state = .fault) → q.value = .on →
      (s.senses.fault[p] = false →
        Takes (exec (.portPower items) s)
          (put { r with
            state := .powering, cause := none, switch := .closed, request := .on, command := some .powerOn
            desired := none, lastSent := none, acked := none, timer := some (.powerGood s.timing.powerGoodMs) })
          0x70#8 fun t => [[0#8], [], optBytes (fun c => byteOf (PowerCommand.code c)) t.ports[p].command]) ∧
      (s.senses.fault[p] = true →
        Takes (exec (.portPower items) s)
          (put { r with
            state := .fault, cause := some .power, switch := .opened, request := .on, command := none
            outcome := some .failed, desired := none, lastSent := none, acked := none, timer := none
            flags := r.flags ||| BerthKind.portCommandDone.mark ||| BerthKind.powerFault.mark })
          0x70#8 fun _ => [[0#8], [1#8], []])) ∧
    (r.command = none → (r.state = .linking ∨ r.state = .active) → q.value = .on →
      Takes (exec (.portPower items) s) (put (done .on)) 0x70#8 fun _ => [[0#8], [0#8], []]) ∧
    (r.command = none → (r.state = .present ∨ r.state = .fault) → q.value = .off →
      Takes (exec (.portPower items) s) (put (done .off)) 0x70#8 fun _ => [[1#8], [0#8], []]) ∧
    (r.command = none → (r.state = .linking ∨ r.state = .active) → q.value = .off →
      Takes (exec (.portPower items) s)
        ((put { r with
          state := .powering, cause := none, switch := .opened, request := .off, command := some .powerOff
          desired := none, lastSent := none, acked := none, timer := some (.discharge 20) }).mapPoller (deckOf p)
            (Poller.discard p))
        0x70#8 fun _ => [[1#8], [], [1#8]])

/-- PORT_CONFIG, PORT_QUERY and SET_PORT_TIMING (R143, R147, R148). The remaining time PORT_QUERY gives is a free value
bounded by the time loaded (log 1); the forms of the record and of the configuration, the one data item for the remaining
time of whichever timer runs, and the order of the two timeouts are the model's reading (log 5). -/
def Obligations.PortSettings : Prop :=
  ∀ (items : List Item) (s : State),
    (∀ q : ConfigParams, configParams items = some q →
      let r : PortRec := { s.ports[q.port] with
        zone := q.zone.getD s.ports[q.port].zone
        auto := q.auto.getD s.ports[q.port].auto
        crew := q.crew.getD s.ports[q.port].crew }
      let u : State := { s with ports := s.ports.set q.port.val r }
      let marked := (allPorts.filter fun p => (decide (p.val < 20) == decide (q.port.val < 20)) && u.ports[p].crew).length
      (4 < marked → Replies (exec (.portConfig items) s) s 0x71#8 .badParam []) ∧
      (marked ≤ 4 →
        Takes (exec (.portConfig items) s) u 0x71#8 fun _ =>
          [byteOf r.zone.val ++ flagByte r.auto ++ flagByte r.crew])) ∧
    (∀ p : Port, onePort items = some p →
      ∃ left : List Byte,
        exec (.portQuery items) s = .next { s with
          free := s.free + 1
          reply := some { code := 0x72#8, status := .ok, data := [s.ports[p].bytes, left] } } ∧
        (s.ports[p].timer = none → left = []) ∧
        ∀ k : PortTimer, s.ports[p].timer = some k → ∃ ms : Nat, ms ≤ k.ms ∧ left = bytes2 ms) ∧
    ∀ c : TimingChange, timingParams items = some c →
      let good := c.powerGoodMs.getD s.timing.powerGoodMs
      let link := c.linkS.getD s.timing.linkS
      Takes (exec (.setPortTiming items) s) { s with timing := { powerGoodMs := good, linkS := link } } 0x73#8
        fun _ => [bytes2 good, byteOf link]

/-- A rise and a fall of the presence sense (R140), with the automatic POWER_ON; and a port's power events (R141, R143, R144):
a power fault while powered, power good, and the expiry of the power-good timer, the discharge interval and the link timer.
A sense that does not change, power good with no POWER_ON in flight, and an expiry that is late or of a timer that does not
run, change nothing else (logs 10, 13). -/
def Obligations.PortEvents : Prop :=
  (∀ (s : State) (p : Port), s.PortsLawful →
    let r := s.ports[p]
    let put (high : Bool) (r' : PortRec) : State := { s with
      senses := { s.senses with presence := s.senses.presence.set p.val high }
      ports := s.ports.set p.val r' }
    (s.senses.presence[p] = false →
      exec (.presenceFall p) s = .next s ∧
      (r.auto = false →
        Happens (exec (.presenceRise p) s)
          (put true { r with state := .present, flags := r.flags ||| BerthKind.presence.mark })) ∧
      (r.auto = true → s.senses.fault[p] = false →
        Happens (exec (.presenceRise p) s)
          (put true { r with
            state := .powering, switch := .closed, request := .on, command := some .powerOn
            timer := some (.powerGood s.timing.powerGoodMs), flags := r.flags ||| BerthKind.presence.mark })) ∧
      (r.auto = true → s.senses.fault[p] = true →
        Happens (exec (.presenceRise p) s)
          (put true { r with
            state := .fault, cause := some .power, switch := .opened, request := .on, command := none
            outcome := some .failed, timer := none
            flags := r.flags ||| BerthKind.presence.mark ||| BerthKind.portCommandDone.mark |||
              BerthKind.powerFault.mark }))) ∧
    (s.senses.presence[p] = true →
      exec (.presenceRise p) s = .next s ∧
      Happens (exec (.presenceFall p) s)
        ((put false { r with
          state := .empty, cause := none, switch := .opened, command := none
          outcome := if r.command.isSome then some .aborted else r.outcome
          identity := none, headphones := false, desired := none, lastSent := none, acked := none, timer := none
          flags := (if r.command.isSome then r.flags ||| BerthKind.portCommandDone.mark else r.flags) |||
            BerthKind.presence.mark }).mapPoller (deckOf p) (Poller.discard p)))) ∧
  (∀ (s : State) (p : Port), s.PortsLawful →
    let r := s.ports[p]
    let put (r' : PortRec) : State := { s with ports := s.ports.set p.val r' }
    let drop (u : State) : State := u.mapPoller (deckOf p) (Poller.discard p)
    let powerFault : PortRec := { r with
      state := .fault, cause := some .power, switch := .opened, command := none
      outcome := if r.command.isSome then some .failed else r.outcome
      desired := none, lastSent := none, acked := none, timer := none
      flags := (if r.command.isSome then r.flags ||| BerthKind.portCommandDone.mark else r.flags) |||
        BerthKind.powerFault.mark }
    let sensed (b : Bool) (u : State) : State :=
      { u with senses := { u.senses with fault := u.senses.fault.set p.val b } }
    (r.switch = .closed → s.senses.fault[p] = false →
      Happens (exec (.powerFault p true) s) (sensed true (drop (put powerFault)))) ∧
    ((r.switch = .opened ∨ s.senses.fault[p] = true) → exec (.powerFault p true) s = .next (sensed true s)) ∧
    exec (.powerFault p false) s = .next (sensed false s) ∧
    (r.state = .powering → r.command = some .powerOn →
      Happens (exec (.powerGood p) s)
        ((State.refresh (put { r with
          state := .linking, command := none, outcome := some .done, timer := some (.link (s.timing.linkS * 1000))
          flags := r.flags ||| BerthKind.portCommandDone.mark })).wakePoller (deckOf p)) ∧
      Happens (exec (.powerGoodTimerExpiry ⟨p, false⟩) s) (drop (put powerFault))) ∧
    (¬(r.state = .powering ∧ r.command = some .powerOn) →
      exec (.powerGood p) s = .next s ∧ ∀ late : Bool, exec (.powerGoodTimerExpiry ⟨p, late⟩) s = .next s) ∧
    (¬(r.state = .powering ∧ r.command = some .powerOff) → ∀ late : Bool, exec (.dischargeEnd ⟨p, late⟩) s = .next s) ∧
    (r.state ≠ .linking → ∀ late : Bool, exec (.linkTimerExpiry ⟨p, late⟩) s = .next s) ∧
    (exec (.powerGoodTimerExpiry ⟨p, true⟩) s = .next s ∧ exec (.dischargeEnd ⟨p, true⟩) s = .next s ∧
      exec (.linkTimerExpiry ⟨p, true⟩) s = .next s) ∧
    (r.state = .powering → r.command = some .powerOff →
      Happens (exec (.dischargeEnd ⟨p, false⟩) s)
        (drop (put { r with
          state := .present, command := none, outcome := some .done, timer := none
          flags := r.flags ||| BerthKind.portCommandDone.mark }))) ∧
    (r.state = .linking →
      Happens (exec (.linkTimerExpiry ⟨p, false⟩) s)
        (drop (put { r with
          state := .fault, cause := some .link, switch := .opened, timer := none
          flags := r.flags ||| BerthKind.linkFault.mark }))))

/-! ### Deck bus polling -/

/-- SET_POLL_MODE, SET_POLL_TIMEOUT and READ_POLL (R156, R157): with a turn in flight the mode is pending; else it takes
effect and the poller starts its next turn. The order of the decks in the data of BOTH, the number READ_POLL gives for a
sweep position past the last port, and the turn in flight as one data item, port then kind, are the model's reading
(log 5). -/
def Obligations.PollRequests : Prop :=
  ∀ (items : List Item) (s : State),
    (∀ m : PollMode,
      let effect (pl : Poller) : Poller := match m with
        | .stopped => { pl with mode := .stopped, pending := none }
        | .singleSweep => { pl with mode := .singleSweep, pending := none, sweep := 0 }
        | .round => { pl with mode := .round, pending := none }
        | .priority => { pl with mode := .priority, pending := none, next := .priority }
      let at_ (d : Deck) (u : State) : State :=
        if (u.poller d).turn.isSome then u.mapPoller d fun pl => { pl with pending := some m }
        else (u.mapPoller d effect).startTurn d
      let data (t : State) (d : Deck) : List (List Byte) :=
        [byteOf (t.poller d).mode.code, optBytes (fun m => byteOf (PollMode.code m)) (t.poller d).pending]
      (pollModeParams items = some { decks := .lower, mode := m } →
        Takes (exec (.setPollMode items) s) (at_ .lower s) 0x80#8 fun t => data t .lower) ∧
      (pollModeParams items = some { decks := .upper, mode := m } →
        Takes (exec (.setPollMode items) s) (at_ .upper s) 0x80#8 fun t => data t .upper) ∧
      (pollModeParams items = some { decks := .both, mode := m } →
        Takes (exec (.setPollMode items) s) (at_ .upper (at_ .lower s)) 0x80#8 fun t =>
          data t .lower ++ data t .upper)) ∧
    (∀ ms : Nat, pollTimeoutParams items = some ms →
      Takes (exec (.setPollTimeout items) s) { s with responseMs := ms } 0x81#8 fun _ => [byteOf ms]) ∧
    ∀ d : Deck, readPollParams items = some d →
      let pl := s.poller d
      let base := match d with
        | .lower => 0
        | .upper => 20
      Replies (exec (.readPoll items) s) s 0x82#8 .ok
        [byteOf pl.mode.code, optBytes (fun m => byteOf (PollMode.code m)) pl.pending, byteOf (base + pl.round.val),
          byteOf (base + pl.priority.val), byteOf (base + pl.ordinary.val), byteOf pl.next.code,
          byteOf (base + pl.sweep),
          optBytes (fun t : Turn => byteOf t.port.val ++ byteOf (turnKindCode t.kind)) pl.turn, byteOf s.responseMs]

/-- A turn ends by the frame received or by the response timer (R158): its result is taken, a pending mode takes effect, and
the next turn starts. A late frame or expiry, and one with no turn in flight, is not taken (logs 10, 13). -/
def Obligations.TurnEnds : Prop :=
  ∀ (s : State) (d : Deck),
    let ended (pl : Poller) : Poller := match pl.pending with
      | none => { pl with turn := none }
      | some m => { pl with turn := none }.takeMode m
    ((s.poller d).turn = none →
      ∀ late : Bool, (∀ frame : List Byte, exec (.response d late frame) s = .next s) ∧
        exec (.responseTimerExpiry ⟨d, late⟩) s = .next s) ∧
    (∀ frame : List Byte, exec (.response d true frame) s = .next s) ∧
    exec (.responseTimerExpiry ⟨d, true⟩) s = .next s ∧
    ∀ t : Turn, (s.poller d).turn = some t →
      (∀ frame : List Byte,
        Happens (exec (.response d false frame) s)
          ((((s.turnResult t (readReport t.kind t.port frame)).refresh).mapPoller d ended).startTurn d)) ∧
      Happens (exec (.responseTimerExpiry ⟨d, false⟩) s)
        ((((s.turnResult t none).refresh).mapPoller d ended).startTurn d)

/-- What the end of a turn does to its port and berth (R144, R145, R159 to R161): nothing if the result is discarded, a
miss, the Identify answer, a unit fault, or the six steps of a good Response. That an Identify answer which makes the port
FAULT(UNIT) leaves the last taken request number is the model's reading (log 19). -/
def Obligations.TurnResults : Prop :=
  ∀ (s : State) (t : Turn) (rep : UnitReport),
    let p := t.port
    let r := s.ports[p]
    let put (r' : PortRec) : State := { s with ports := s.ports.set p.val r' }
    let fault (c : FaultCause) (r' : PortRec) : PortRec := { r' with
      state := .fault, cause := some c, switch := .opened, timer := none, desired := none, lastSent := none, acked := none
      flags := r'.flags ||| BerthKind.linkFault.mark }
    (t.discarded = true → s.turnResult t (some rep) = s ∧ s.turnResult t none = s) ∧
    (t.discarded = false → t.kind = .identify →
      s.turnResult t none = s ∧
      ∀ i : Identity, rep.identity = some i →
        let told : PortRec := { r with identity := some i, headphones := rep.headphones }
        (((i.kind = .screenAudio ∨ i.kind = .audioOnly) ∧ i.level = 1 ∧ rep.fault = false) →
          s.turnResult t (some rep) = put { told with
            state := .active, cause := none, switch := .closed, timer := none, desired := none, lastSent := none
            acked := none, misses := 0, baseline := some rep.presses, lastTaken := some rep.number
            verdicts := none }) ∧
        (¬((i.kind = .screenAudio ∨ i.kind = .audioOnly) ∧ i.level = 1 ∧ rep.fault = false) →
          s.turnResult t (some rep) = put (fault .unit told))) ∧
    (t.discarded = false → t.kind = .normal →
      (r.misses < 2 → s.turnResult t none = put { r with misses := r.misses + 1 }) ∧
      (2 ≤ r.misses → s.turnResult t none = put (fault .link { r with misses := r.misses + 1 })) ∧
      (rep.fault = true → s.turnResult t (some rep) = put (fault .unit { r with misses := 0 })) ∧
      (rep.fault = false →
        let told : State := put { { r with misses := 0 }.acknowledge rep.version with
          headphones := rep.headphones, baseline := some rep.presses }
        let pressed := told.presses p (newPresses r.baseline rep.presses)
        (r.lastTaken = some rep.number → s.turnResult t (some rep) = pressed) ∧
        (r.lastTaken ≠ some rep.number →
          ∃ (verdicts : List Verdict) (u : State), pressed.passengers p rep.requests = (verdicts, u) ∧
            s.turnResult t (some rep) = { u with
              ports := u.ports.set p.val { u.ports[p] with
                lastTaken := some rep.number
                verdicts := some { number := rep.number, verdicts := verdicts } } })))

/-- The port a poller gives its next turn to (R151 to R155), and the turn it starts there (R158) or the end of its sweep; and
the wake of a poller, which PortEvents has made as a port of its deck enters LINKING: a turn starts where none is in flight
and the mode is ROUND or PRIORITY, and else nothing changes (R151). -/
def Obligations.NextTurn : Prop :=
  ∀ (s : State) (d : Deck),
    let pl := s.poller d
    let port (k : Fin 20) : Port := portOf d k
    let polled (k : Fin 20) : Prop := s.ports[port k].state = .linking ∨ s.ports[port k].state = .active
    let urgent (k : Fin 20) : Prop :=
      s.ports[port k].crew = true ∨ (∃ b, s.slots[port k] = some b ∧ b.image.state = .waking) ∨
        (∃ c, s.callOf (port k) = some c ∧ c.state = .pending) ∨
        (s.ports[port k].state = .active ∧ ∃ e c, s.ports[port k].desired = some e ∧ e.audio = .announce c ∧
          ∀ v ∈ s.ports[port k].acked, v.pres ≠ e)
    let first (start : Fin 20) (ok : Fin 20 → Prop) (k : Fin 20) : Prop :=
      ok k ∧ ∀ m : Fin 20, (m - start).val < (k - start).val → ¬ok m
    let high (k : Fin 20) : Prop := polled k ∧ urgent k
    let low (k : Fin 20) : Prop := polled k ∧ ¬urgent k
    (pl.mode = .stopped → pl.choose s d = none ∧ s.startTurn d = s) ∧
    (pl.mode = .round →
      ((∀ k, ¬polled k) → pl.choose s d = none) ∧
      ∀ k, first pl.round polled k → pl.choose s d = some (k, { pl with round := k + 1 })) ∧
    (pl.mode = .priority →
      ((∀ k, ¬polled k) → pl.choose s d = none) ∧
      (∀ k, first pl.priority high k → (pl.next = .priority ∨ ∀ m, ¬low m) →
        pl.choose s d = some (k, { pl with priority := k + 1, next := .ordinary })) ∧
      (∀ k, first pl.ordinary low k → (pl.next = .ordinary ∨ ∀ m, ¬high m) →
        pl.choose s d = some (k, { pl with ordinary := k + 1, next := .priority }))) ∧
    (pl.mode = .singleSweep →
      (∀ k, pl.sweep ≤ k.val → polled k → (∀ m : Fin 20, pl.sweep ≤ m.val → m < k → ¬polled m) →
        pl.choose s d = some (k, { pl with sweep := k.val + 1 })) ∧
      ((∀ k : Fin 20, pl.sweep ≤ k.val → ¬polled k) →
        s.startTurn d =
          { s.mapPoller d fun pl => { pl with
              mode := .stopped, round := 0, priority := 0, ordinary := 0, sweep := 0, next := .priority } with
            events := { s.events with coach := s.events.coach ||| (match d with
              | .lower => CoachKind.sweepDoneL.mark
              | .upper => CoachKind.sweepDoneU.mark) } })) ∧
    (pl.mode ≠ .singleSweep → (∀ k, ¬polled k) → s.startTurn d = s) ∧
    (pl.turn = none → (pl.mode = .round ∨ pl.mode = .priority) → s.wakePoller d = s.startTurn d) ∧
    (¬(pl.turn = none ∧ (pl.mode = .round ∨ pl.mode = .priority)) → s.wakePoller d = s) ∧
    ∀ (k : Fin 20) (pl' : Poller), pl.choose s d = some (k, pl') →
      let r := s.ports[port k]
      (r.state = .linking →
        s.startTurn d = s.mapPoller d fun _ => { pl' with
          turn := some { port := port k, kind := .identify, timerMs := s.responseMs, discarded := false }
          poll := some (.identify (port k)) }) ∧
      (r.state = .active →
        s.startTurn d =
          { s.mapPoller d fun _ => { pl' with
              turn := some { port := port k, kind := .normal, timerMs := s.responseMs, discarded := false }
              poll := some (.normal (port k) r.directive r.lastTaken (match r.verdicts with
                | none => []
                | some v => v.verdicts)) } with
            ports := s.ports.set (port k).val r.sent })

/-! ### Feeds -/

/-- CONFIGURE_FEED, UNCONFIGURE_FEED, FEED_QUERY and SET_FEED_STALL (R163, R164, R168). The forms of the data are the model's
reading (log 5), and the remaining time of a stall timer is a free value (log 1). -/
def Obligations.FeedRequests : Prop :=
  ∀ (items : List Item) (s : State),
    (∀ q : FeedParams, feedParams items = some q →
      let r := s.feeds[q.feed]
      let r' : Feed := { r with state := if r.state = .absent then .waiting else r.state, desc := some q.desc }
      Takes (exec (.configureFeed items) s) { s with feeds := s.feeds.set q.feed.val r' } 0x88#8 fun _ =>
        [byteOf r'.state.code ++ q.desc.bytes]) ∧
    (∀ f : FeedIx, oneFeed items = some f →
      let u : State := { s with feeds := s.feeds.set f.val { state := .absent, desc := none, timer := none } }
      (s.feeds[f].state = .absent → Replies (exec (.unconfigureFeed items) s) s 0x89#8 .wrongState []) ∧
      (s.feeds[f].state ≠ .absent →
        (∀ h : Handle, ∀ a ∈ s.roster.rec? h, a.state = .playing → a.source.feed ≠ some f) →
        Takes (exec (.unconfigureFeed items) s) u 0x89#8 fun _ => []) ∧
      (s.feeds[f].state ≠ .absent → s.roster.Lawful → ∀ (h : Handle) (a : Ann), s.roster.rec? h = some a →
        a.state = .playing → a.source.feed = some f →
        ∃ t : State, exec (.unconfigureFeed items) s = .next t ∧ u.SlotEnds t h (a.afterPlayout []) ∧
          t.reply = some { code := 0x89#8, status := .ok, data := [] })) ∧
    (feedQueryParams items = some none →
      Replies (exec (.feedQuery items) s) s 0x8A#8 .ok (allFeeds.map fun f => byteOf s.feeds[f].state.code)) ∧
    (∀ f : FeedIx, feedQueryParams items = some (some f) →
      ∃ left : List Byte,
        exec (.feedQuery items) s = .next { s with
          free := s.free + 1
          reply := some { code := 0x8A#8, status := .ok
                          data := [byteOf s.feeds[f].state.code, optBytes Descriptor.bytes s.feeds[f].desc,
                            bytes2 s.stallMs, left] } } ∧
        (s.feeds[f].timer = none → left = []) ∧
        ∀ loaded : Nat, s.feeds[f].timer = some loaded → ∃ ms : Nat, ms ≤ loaded ∧ left = bytes2 ms) ∧
    ∀ ms : Nat, stallParams items = some ms →
      Takes (exec (.setFeedStall items) s) { s with stallMs := ms } 0x8B#8 fun _ => [bytes2 ms]

/-- Frames on the media input port and the stall of a feed (R165 to R169): frames that are dropped, DATA frames by the feed's
state, and END frames and stalls that end no playout. A stall expiry that is late (R169), or with no timer running, changes
nothing (logs 10, 13). What the forward media lanes carry (02 R30, 04 R68, 11 R168): on each channel, and the channel on
which a feed's payload goes out. -/
def Obligations.FeedFrames : Prop :=
  (∀ (bytes : List Byte) (s : State),
    ((readFeedFrame bytes = none ∨ ∃ g, readFeedFrame bytes = some g ∧ s.feeds[g.feed].state = .absent) →
      exec (.dataFrame bytes) s = .next s ∧ exec (.endFrame bytes) s = .next s) ∧
    (∀ (f : FeedIx) (payload : List Byte), readFeedFrame bytes = some ⟨f, .data, payload⟩ →
      s.feeds[f].state ≠ .absent →
        Happens (exec (.dataFrame bytes) s)
          { s with
            feeds := s.feeds.set f.val { s.feeds[f] with state := .active, timer := some s.stallMs }
            events := if s.feeds[f].state = .stalled then
                { s.events with coach := s.events.coach ||| CoachKind.feedResumed.mark }
              else s.events
            media := some { feed := f, channel := s.mediaChannel f, payload := payload } }) ∧
    (∀ f : FeedIx, readFeedFrame bytes = some ⟨f, .endOfItem, []⟩ → s.feeds[f].state ≠ .absent →
      (s.feeds[f].state ≠ .active → Happens (exec (.endFrame bytes) s) s) ∧
      ((∀ h : Handle, ∀ a ∈ s.roster.rec? h, a.state = .playing → a.source.feed ≠ some f) →
        s.feeds[f].state = .active →
        Happens (exec (.endFrame bytes) s)
          { s with feeds := s.feeds.set f.val { s.feeds[f] with state := .waiting, timer := none } })) ∧
    (∀ (f : FeedIx) (late : Bool), (late = true ∨ s.feeds[f].timer = none) →
      exec (.stallTimerExpiry ⟨f, late⟩) s = .next s) ∧
    ∀ f : FeedIx, (∀ h : Handle, ∀ a ∈ s.roster.rec? h, a.state = .playing → a.source.feed ≠ some f) →
      s.feeds[f].timer.isSome = true →
      Happens (exec (.stallTimerExpiry ⟨f, false⟩) s)
        { s with
          feeds := s.feeds.set f.val { s.feeds[f] with state := .stalled, timer := none }
          events := { s.events with coach := s.events.coach ||| CoachKind.feedStalled.mark } }) ∧
  ∀ s : State, s.roster.Lawful →
    (∀ p : Program, s.lane ⟨p.val, by omega⟩ = if (s.programFeed p).state = .active then .program p else .nothing) ∧
    s.lane 16 = .wakeChime ∧
    (∀ c : Channel,
      ((∀ h : Handle, ∀ a ∈ s.roster.rec? h, a.onAir = true → a.channel ≠ some c) →
        s.lane ⟨12 + c.val, by omega⟩ = .silence) ∧
      ∀ (h : Handle) (a : Ann), s.roster.rec? h = some a → a.channel = some c →
        (a.state = .leadIn → s.lane ⟨12 + c.val, by omega⟩ = if a.chime then .leadInChime else .silence) ∧
        (a.state = .playing → s.lane ⟨12 + c.val, by omega⟩ =
          match a.source with
          | .mic => .mic
          | .n0 => if s.feeds[(12 : FeedIx)].state = .active then .feed 12 else .silence
          | .n1 => if s.feeds[(13 : FeedIx)].state = .active then .feed 13 else .silence
          | .chime => .chimeTone
          | .alertTone => .alertTone)) ∧
    (∀ p : Program, s.mediaChannel ⟨p.val, by omega⟩ = some p.val) ∧
    ∀ f : FeedIx, 12 ≤ f.val →
      ((∀ h : Handle, ∀ a ∈ s.roster.rec? h, a.state = .playing → a.source.feed ≠ some f) →
        s.mediaChannel f = none) ∧
      ∀ (h : Handle) (a : Ann) (c : Channel), s.roster.rec? h = some a → a.state = .playing → a.source.feed = some f →
        a.channel = some c → s.mediaChannel f = some (12 + c.val)

/-! ### Resets and transfers -/

/-- POWER_ON_RESET and PART_RESET (R174, 09 R149): every block in its reset state, each port whose presence sense stands
high taken as a presence rise, the level of ALERT_IN taken without an edge, and no response. The queue and the counter of
free values are the model's own and are kept (log 9); that the bytes last read, the last Polls and the media output are empty
after a reset is the model's choice (log 12). TRIP_RESET (R175, 01 R27): ALERT_ACTIVE
unless CLEAR, else the table, Roster and Call List are cleared with the trip kinds' flags and the held verdicts, and a walk
starts; everything else is kept. -/
def Obligations.Resets : Prop :=
  (∀ s : State,
    let reset (pins : Pins) (t : State) : Prop :=
      t = { State.reset with
        pending := s.pending, free := s.free
        senses := { presence := pins.presence, fault := pins.fault }
        alert := { State.reset.alert with level := pins.alertIn }
        ports := t.ports
        events := { State.reset.events with attn := t.attnLevel } } ∧
      ∀ p : Port,
        (pins.presence[p] = false → t.ports[p] = State.reset.ports[p]) ∧
        (pins.presence[p] = true → pins.fault[p] = false →
          t.ports[p] = { State.reset.ports[p] with
            state := .powering, switch := .closed, request := .on, command := some .powerOn
            timer := some (.powerGood 100), flags := BerthKind.presence.mark }) ∧
        (pins.presence[p] = true → pins.fault[p] = true →
          t.ports[p] = { State.reset.ports[p] with
            state := .fault, cause := some .power, request := .on, outcome := some .failed
            flags := BerthKind.presence.mark ||| BerthKind.portCommandDone.mark ||| BerthKind.powerFault.mark })
    (∀ pins : Pins, ∃ t : State, exec (.powerOnReset pins) s = .next t ∧ reset pins t) ∧
    ∀ items : List Item, ∃ t : State, exec (.partReset items) s = .next t ∧
      reset { presence := s.senses.presence, fault := s.senses.fault, alertIn := s.alert.level } t) ∧
  (∀ s : State,
    (s.alert.state ≠ .clear → Replies (exec (.tripReset []) s) s 0x91#8 .alertActive []) ∧
    (s.alert.state = .clear →
      Takes (exec (.tripReset []) s)
        { s with
          slots := Vector.replicate 40 none
          roster := { recs := Vector.replicate 16 none, order := [], counter := s.roster.counter }
          calls := []
          ports := s.ports.map fun r => { r with
            verdicts := none
            flags := r.flags &&& (BerthKind.presence.mark ||| BerthKind.powerFault.mark ||| BerthKind.linkFault.mark |||
              BerthKind.portCommandDone.mark) }
          digest := { s.digest with walk := some ⟨s.digest.poly, s.digest.order⟩ }
          wake := if s.wake.waiting then { active := s.wake.pending, pending := s.wake.pending, waiting := false }
            else s.wake }
        0x91#8 fun _ => []))

/-- Transfers of the command port (R170, R171): a write that cannot be parsed is refused BAD_REQUEST; a read clocks out the
held response, which is consumed if all of it was read, or else the empty frame. Bytes past the frame are free values. -/
def Obligations.Transfers : Prop :=
  (∀ (code : Byte) (rest : List Byte) (s : State), isBadRequest (code :: rest) = true →
    Replies (exec (.badRequest (code :: rest)) s) s code .badRequest []) ∧
  (∀ s : State, ∃ code : Byte, exec (.badRequest []) s =
    .next { s with free := s.free + 1, reply := some { code := code, status := .badRequest, data := [] } }) ∧
  ∀ (n : Nat) (s : State),
    let frame : List Byte := match s.reply with
      | none => [0#8, 0#8, 0#8, 0#8]
      | some r => r.frame
    ∃ past : List Byte, past.length = n - frame.length ∧
      exec (.responseRead n) s = .next { s with
        miso := frame.take n ++ past
        free := s.free + past.length
        reply := if frame.length ≤ n then none else s.reply }

/-! ### Events and the digest -/

/-- SET_EVENT_ENABLES, READ_SUMMARY, READ_BERTH_EVENTS and the two acknowledgements (R176, R177); the order of the 26 items of
SET_EVENT_ENABLES and the width of membership marks are the model's reading (log 5). What is pending, and the law of ATTN (R177): asserted exactly when some
flag of an enabled kind is set on a port of an enabled zone, or some coach flag of an enabled kind is set. -/
def Obligations.EventRequests : Prop :=
  (∀ s : State,
    (∀ p : Port, s.portPending p = true ↔
      ∃ k : Fin 10, s.ports[p].flags.getLsbD k.val = true ∧ s.events.berthEnables.getLsbD k.val = true) ∧
    (∀ z : Fin 8, s.zonePending z = true ↔ ∃ p : Port, s.ports[p].zone = z ∧ s.portPending p = true) ∧
    (s.attnLevel = true ↔
      (∃ (p : Port) (k : Fin 10), s.ports[p].flags.getLsbD k.val = true ∧
        s.events.berthEnables.getLsbD k.val = true ∧ s.events.zoneEnables.getLsbD s.ports[p].zone.val = true) ∨
      ∃ k : Fin 8, s.events.coach.getLsbD k.val = true ∧ s.events.coachEnables.getLsbD k.val = true)) ∧
  ∀ (items : List Item) (s : State),
    (∀ q : EnableParams, enableParams items = some q →
      let on {n : Nat} (e : EnableChange n) (v : BitVec n) : BitVec n := (v &&& ~~~e.named) ||| e.on
      let e : Events := { s.events with
        berthEnables := on q.berth s.events.berthEnables
        coachEnables := on q.coach s.events.coachEnables
        zoneEnables := on q.zone s.events.zoneEnables }
      Takes (exec (.setEventEnables items) s) { s with events := e } 0x92#8 fun _ =>
        (List.range 10).map (fun k => flagByte (e.berthEnables.getLsbD k)) ++
          (List.range 8).map (fun k => flagByte (e.coachEnables.getLsbD k)) ++
          (List.range 8).map fun k => flagByte (e.zoneEnables.getLsbD k)) ∧
    (items = [] →
      ∃ zones : BitVec 8, (∀ z : Fin 8, zones.getLsbD z.val = s.zonePending z) ∧
        Replies (exec (.readSummary items) s) s 0x93#8 .ok
          [marksBytes zones, marksBytes (portMarks (allPorts.filter s.portPending)), marksBytes s.events.coach]) ∧
    (∀ p : Port, onePort items = some p →
      Replies (exec (.readBerthEvents items) s) s 0x94#8 .ok
        [marksBytes s.ports[p].flags, byteOf s.ports[p].zone.val]) ∧
    (∀ q : AckParams, ackBerthParams items = some q →
      let r : PortRec := { s.ports[q.port] with flags := s.ports[q.port].flags &&& ~~~q.kinds }
      Takes (exec (.ackBerthEvents items) s) { s with ports := s.ports.set q.port.val r } 0x95#8 fun _ =>
        [marksBytes r.flags]) ∧
    ∀ kinds : BitVec 8, ackCoachParams items = some kinds →
      Takes (exec (.ackCoachEvents items) s)
        { s with events := { s.events with coach := s.events.coach &&& ~~~kinds } } 0x96#8 fun _ =>
          [marksBytes (s.events.coach &&& ~~~kinds)]

/-- SET_DIGEST, READ_DIGEST and the completion of a walk (R178, R179). A completion with no walk in progress changes nothing
(log 10), and the order of the settings in the data of SET_DIGEST is the model's reading (log 5). -/
def Obligations.DigestRules : Prop :=
  (∀ (items : List Item) (s : State) (c : DigestChange), digestParams items = some c →
    let poly := c.poly.getD s.digest.poly
    let order := c.order.getD s.digest.order
    Takes (exec (.setDigest items) s)
      { s with digest := { settled := s.digest.settled, poly := poly, order := order, walk := some ⟨poly, order⟩ } }
      0x97#8 fun _ => [byteOf poly.code, byteOf order.code]) ∧
  (∀ s : State, Replies (exec (.readDigest []) s) s 0x98#8 .ok
    [bytes2 s.digest.settled.toNat, byteOf s.digest.poly.code, byteOf s.digest.order.code,
      flagByte s.digest.walk.isSome]) ∧
  (∀ s : State, s.digest.walk = none → exec .walkComplete s = .next s) ∧
  ∀ (s : State) (w : Walk), s.digest.walk = some w →
    let table : List Byte := allPorts.flatMap fun p => match s.slots[p] with
      | none => [0#8]
      | some b => b.image.bytes
    Happens (exec .walkComplete s)
      { s with
        digest := { s.digest with
          walk := none
          settled := match w.poly, w.order with
            | .digestA, .msbFirst => crcUp 0x1021#16 table
            | .digestB, .msbFirst => crcUp 0x8005#16 table
            | .digestA, .lsbFirst => crcDown 0x8408#16 table
            | .digestB, .lsbFirst => crcDown 0xA001#16 table }
        events := { s.events with coach := s.events.coach ||| CoachKind.digestSettled.mark } }

end
end

