-- ==== Sys2Proof/Laws/State.lean ====
section
/-! SUPPORT. One lemma per field per named update of State: what an update leaves as it was. Each is true by computation
and is a simp lemma, so that no proof unfolds a record update. -/

namespace Sys2Proof.Machine

open Sys2Proof

variable (s : State)

/-! ### respond -/

@[simp] theorem State.respond_pending (code : Byte) (st : Status) (d : List (List Byte)) : (s.respond code st d).pending = s.pending := rfl
@[simp] theorem State.respond_slots (code : Byte) (st : Status) (d : List (List Byte)) : (s.respond code st d).slots = s.slots := rfl
@[simp] theorem State.respond_roster (code : Byte) (st : Status) (d : List (List Byte)) : (s.respond code st d).roster = s.roster := rfl
@[simp] theorem State.respond_quiet (code : Byte) (st : Status) (d : List (List Byte)) : (s.respond code st d).quiet = s.quiet := rfl
@[simp] theorem State.respond_policy (code : Byte) (st : Status) (d : List (List Byte)) : (s.respond code st d).policy = s.policy := rfl
@[simp] theorem State.respond_wake (code : Byte) (st : Status) (d : List (List Byte)) : (s.respond code st d).wake = s.wake := rfl
@[simp] theorem State.respond_windowMs (code : Byte) (st : Status) (d : List (List Byte)) : (s.respond code st d).windowMs = s.windowMs := rfl
@[simp] theorem State.respond_calls (code : Byte) (st : Status) (d : List (List Byte)) : (s.respond code st d).calls = s.calls := rfl
@[simp] theorem State.respond_clock (code : Byte) (st : Status) (d : List (List Byte)) : (s.respond code st d).clock = s.clock := rfl
@[simp] theorem State.respond_alert (code : Byte) (st : Status) (d : List (List Byte)) : (s.respond code st d).alert = s.alert := rfl
@[simp] theorem State.respond_ports (code : Byte) (st : Status) (d : List (List Byte)) : (s.respond code st d).ports = s.ports := rfl
@[simp] theorem State.respond_timing (code : Byte) (st : Status) (d : List (List Byte)) : (s.respond code st d).timing = s.timing := rfl
@[simp] theorem State.respond_senses (code : Byte) (st : Status) (d : List (List Byte)) : (s.respond code st d).senses = s.senses := rfl
@[simp] theorem State.respond_lower (code : Byte) (st : Status) (d : List (List Byte)) : (s.respond code st d).lower = s.lower := rfl
@[simp] theorem State.respond_upper (code : Byte) (st : Status) (d : List (List Byte)) : (s.respond code st d).upper = s.upper := rfl
@[simp] theorem State.respond_responseMs (code : Byte) (st : Status) (d : List (List Byte)) : (s.respond code st d).responseMs = s.responseMs := rfl
@[simp] theorem State.respond_feeds (code : Byte) (st : Status) (d : List (List Byte)) : (s.respond code st d).feeds = s.feeds := rfl
@[simp] theorem State.respond_stallMs (code : Byte) (st : Status) (d : List (List Byte)) : (s.respond code st d).stallMs = s.stallMs := rfl
@[simp] theorem State.respond_media (code : Byte) (st : Status) (d : List (List Byte)) : (s.respond code st d).media = s.media := rfl
@[simp] theorem State.respond_events (code : Byte) (st : Status) (d : List (List Byte)) : (s.respond code st d).events = s.events := rfl
@[simp] theorem State.respond_digest (code : Byte) (st : Status) (d : List (List Byte)) : (s.respond code st d).digest = s.digest := rfl
@[simp] theorem State.respond_miso (code : Byte) (st : Status) (d : List (List Byte)) : (s.respond code st d).miso = s.miso := rfl
@[simp] theorem State.respond_free (code : Byte) (st : Status) (d : List (List Byte)) : (s.respond code st d).free = s.free := rfl

/-! ### putSlots -/

@[simp] theorem State.putSlots_pending (v : Vector (Option Berth) 40) : (s.putSlots v).pending = s.pending := rfl
@[simp] theorem State.putSlots_roster (v : Vector (Option Berth) 40) : (s.putSlots v).roster = s.roster := rfl
@[simp] theorem State.putSlots_quiet (v : Vector (Option Berth) 40) : (s.putSlots v).quiet = s.quiet := rfl
@[simp] theorem State.putSlots_policy (v : Vector (Option Berth) 40) : (s.putSlots v).policy = s.policy := rfl
@[simp] theorem State.putSlots_wake (v : Vector (Option Berth) 40) : (s.putSlots v).wake = s.wake := rfl
@[simp] theorem State.putSlots_windowMs (v : Vector (Option Berth) 40) : (s.putSlots v).windowMs = s.windowMs := rfl
@[simp] theorem State.putSlots_calls (v : Vector (Option Berth) 40) : (s.putSlots v).calls = s.calls := rfl
@[simp] theorem State.putSlots_clock (v : Vector (Option Berth) 40) : (s.putSlots v).clock = s.clock := rfl
@[simp] theorem State.putSlots_alert (v : Vector (Option Berth) 40) : (s.putSlots v).alert = s.alert := rfl
@[simp] theorem State.putSlots_ports (v : Vector (Option Berth) 40) : (s.putSlots v).ports = s.ports := rfl
@[simp] theorem State.putSlots_timing (v : Vector (Option Berth) 40) : (s.putSlots v).timing = s.timing := rfl
@[simp] theorem State.putSlots_senses (v : Vector (Option Berth) 40) : (s.putSlots v).senses = s.senses := rfl
@[simp] theorem State.putSlots_lower (v : Vector (Option Berth) 40) : (s.putSlots v).lower = s.lower := rfl
@[simp] theorem State.putSlots_upper (v : Vector (Option Berth) 40) : (s.putSlots v).upper = s.upper := rfl
@[simp] theorem State.putSlots_responseMs (v : Vector (Option Berth) 40) : (s.putSlots v).responseMs = s.responseMs := rfl
@[simp] theorem State.putSlots_feeds (v : Vector (Option Berth) 40) : (s.putSlots v).feeds = s.feeds := rfl
@[simp] theorem State.putSlots_stallMs (v : Vector (Option Berth) 40) : (s.putSlots v).stallMs = s.stallMs := rfl
@[simp] theorem State.putSlots_media (v : Vector (Option Berth) 40) : (s.putSlots v).media = s.media := rfl
@[simp] theorem State.putSlots_events (v : Vector (Option Berth) 40) : (s.putSlots v).events = s.events := rfl
@[simp] theorem State.putSlots_reply (v : Vector (Option Berth) 40) : (s.putSlots v).reply = s.reply := rfl
@[simp] theorem State.putSlots_miso (v : Vector (Option Berth) 40) : (s.putSlots v).miso = s.miso := rfl
@[simp] theorem State.putSlots_free (v : Vector (Option Berth) 40) : (s.putSlots v).free = s.free := rfl

/-! ### mapPort -/

@[simp] theorem State.mapPort_pending (p : Port) (f : PortRec → PortRec) : (s.mapPort p f).pending = s.pending := rfl
@[simp] theorem State.mapPort_slots (p : Port) (f : PortRec → PortRec) : (s.mapPort p f).slots = s.slots := rfl
@[simp] theorem State.mapPort_roster (p : Port) (f : PortRec → PortRec) : (s.mapPort p f).roster = s.roster := rfl
@[simp] theorem State.mapPort_quiet (p : Port) (f : PortRec → PortRec) : (s.mapPort p f).quiet = s.quiet := rfl
@[simp] theorem State.mapPort_policy (p : Port) (f : PortRec → PortRec) : (s.mapPort p f).policy = s.policy := rfl
@[simp] theorem State.mapPort_wake (p : Port) (f : PortRec → PortRec) : (s.mapPort p f).wake = s.wake := rfl
@[simp] theorem State.mapPort_windowMs (p : Port) (f : PortRec → PortRec) : (s.mapPort p f).windowMs = s.windowMs := rfl
@[simp] theorem State.mapPort_calls (p : Port) (f : PortRec → PortRec) : (s.mapPort p f).calls = s.calls := rfl
@[simp] theorem State.mapPort_clock (p : Port) (f : PortRec → PortRec) : (s.mapPort p f).clock = s.clock := rfl
@[simp] theorem State.mapPort_alert (p : Port) (f : PortRec → PortRec) : (s.mapPort p f).alert = s.alert := rfl
@[simp] theorem State.mapPort_timing (p : Port) (f : PortRec → PortRec) : (s.mapPort p f).timing = s.timing := rfl
@[simp] theorem State.mapPort_senses (p : Port) (f : PortRec → PortRec) : (s.mapPort p f).senses = s.senses := rfl
@[simp] theorem State.mapPort_lower (p : Port) (f : PortRec → PortRec) : (s.mapPort p f).lower = s.lower := rfl
@[simp] theorem State.mapPort_upper (p : Port) (f : PortRec → PortRec) : (s.mapPort p f).upper = s.upper := rfl
@[simp] theorem State.mapPort_responseMs (p : Port) (f : PortRec → PortRec) : (s.mapPort p f).responseMs = s.responseMs := rfl
@[simp] theorem State.mapPort_feeds (p : Port) (f : PortRec → PortRec) : (s.mapPort p f).feeds = s.feeds := rfl
@[simp] theorem State.mapPort_stallMs (p : Port) (f : PortRec → PortRec) : (s.mapPort p f).stallMs = s.stallMs := rfl
@[simp] theorem State.mapPort_media (p : Port) (f : PortRec → PortRec) : (s.mapPort p f).media = s.media := rfl
@[simp] theorem State.mapPort_events (p : Port) (f : PortRec → PortRec) : (s.mapPort p f).events = s.events := rfl
@[simp] theorem State.mapPort_digest (p : Port) (f : PortRec → PortRec) : (s.mapPort p f).digest = s.digest := rfl
@[simp] theorem State.mapPort_reply (p : Port) (f : PortRec → PortRec) : (s.mapPort p f).reply = s.reply := rfl
@[simp] theorem State.mapPort_miso (p : Port) (f : PortRec → PortRec) : (s.mapPort p f).miso = s.miso := rfl
@[simp] theorem State.mapPort_free (p : Port) (f : PortRec → PortRec) : (s.mapPort p f).free = s.free := rfl

/-! ### flagPorts -/

@[simp] theorem State.flagPorts_pending (k : BerthKind) (ps : PortSet) : (s.flagPorts k ps).pending = s.pending := by unfold State.flagPorts; rfl
@[simp] theorem State.flagPorts_slots (k : BerthKind) (ps : PortSet) : (s.flagPorts k ps).slots = s.slots := by unfold State.flagPorts; rfl
@[simp] theorem State.flagPorts_roster (k : BerthKind) (ps : PortSet) : (s.flagPorts k ps).roster = s.roster := by unfold State.flagPorts; rfl
@[simp] theorem State.flagPorts_quiet (k : BerthKind) (ps : PortSet) : (s.flagPorts k ps).quiet = s.quiet := by unfold State.flagPorts; rfl
@[simp] theorem State.flagPorts_policy (k : BerthKind) (ps : PortSet) : (s.flagPorts k ps).policy = s.policy := by unfold State.flagPorts; rfl
@[simp] theorem State.flagPorts_wake (k : BerthKind) (ps : PortSet) : (s.flagPorts k ps).wake = s.wake := by unfold State.flagPorts; rfl
@[simp] theorem State.flagPorts_windowMs (k : BerthKind) (ps : PortSet) : (s.flagPorts k ps).windowMs = s.windowMs := by unfold State.flagPorts; rfl
@[simp] theorem State.flagPorts_calls (k : BerthKind) (ps : PortSet) : (s.flagPorts k ps).calls = s.calls := by unfold State.flagPorts; rfl
@[simp] theorem State.flagPorts_clock (k : BerthKind) (ps : PortSet) : (s.flagPorts k ps).clock = s.clock := by unfold State.flagPorts; rfl
@[simp] theorem State.flagPorts_alert (k : BerthKind) (ps : PortSet) : (s.flagPorts k ps).alert = s.alert := by unfold State.flagPorts; rfl
@[simp] theorem State.flagPorts_timing (k : BerthKind) (ps : PortSet) : (s.flagPorts k ps).timing = s.timing := by unfold State.flagPorts; rfl
@[simp] theorem State.flagPorts_senses (k : BerthKind) (ps : PortSet) : (s.flagPorts k ps).senses = s.senses := by unfold State.flagPorts; rfl
@[simp] theorem State.flagPorts_lower (k : BerthKind) (ps : PortSet) : (s.flagPorts k ps).lower = s.lower := by unfold State.flagPorts; rfl
@[simp] theorem State.flagPorts_upper (k : BerthKind) (ps : PortSet) : (s.flagPorts k ps).upper = s.upper := by unfold State.flagPorts; rfl
@[simp] theorem State.flagPorts_responseMs (k : BerthKind) (ps : PortSet) : (s.flagPorts k ps).responseMs = s.responseMs := by unfold State.flagPorts; rfl
@[simp] theorem State.flagPorts_feeds (k : BerthKind) (ps : PortSet) : (s.flagPorts k ps).feeds = s.feeds := by unfold State.flagPorts; rfl
@[simp] theorem State.flagPorts_stallMs (k : BerthKind) (ps : PortSet) : (s.flagPorts k ps).stallMs = s.stallMs := by unfold State.flagPorts; rfl
@[simp] theorem State.flagPorts_media (k : BerthKind) (ps : PortSet) : (s.flagPorts k ps).media = s.media := by unfold State.flagPorts; rfl
@[simp] theorem State.flagPorts_events (k : BerthKind) (ps : PortSet) : (s.flagPorts k ps).events = s.events := by unfold State.flagPorts; rfl
@[simp] theorem State.flagPorts_digest (k : BerthKind) (ps : PortSet) : (s.flagPorts k ps).digest = s.digest := by unfold State.flagPorts; rfl
@[simp] theorem State.flagPorts_reply (k : BerthKind) (ps : PortSet) : (s.flagPorts k ps).reply = s.reply := by unfold State.flagPorts; rfl
@[simp] theorem State.flagPorts_miso (k : BerthKind) (ps : PortSet) : (s.flagPorts k ps).miso = s.miso := by unfold State.flagPorts; rfl
@[simp] theorem State.flagPorts_free (k : BerthKind) (ps : PortSet) : (s.flagPorts k ps).free = s.free := by unfold State.flagPorts; rfl

/-! ### flagCoach -/

@[simp] theorem State.flagCoach_pending (k : CoachKind) : (s.flagCoach k).pending = s.pending := rfl
@[simp] theorem State.flagCoach_slots (k : CoachKind) : (s.flagCoach k).slots = s.slots := rfl
@[simp] theorem State.flagCoach_roster (k : CoachKind) : (s.flagCoach k).roster = s.roster := rfl
@[simp] theorem State.flagCoach_quiet (k : CoachKind) : (s.flagCoach k).quiet = s.quiet := rfl
@[simp] theorem State.flagCoach_policy (k : CoachKind) : (s.flagCoach k).policy = s.policy := rfl
@[simp] theorem State.flagCoach_wake (k : CoachKind) : (s.flagCoach k).wake = s.wake := rfl
@[simp] theorem State.flagCoach_windowMs (k : CoachKind) : (s.flagCoach k).windowMs = s.windowMs := rfl
@[simp] theorem State.flagCoach_calls (k : CoachKind) : (s.flagCoach k).calls = s.calls := rfl
@[simp] theorem State.flagCoach_clock (k : CoachKind) : (s.flagCoach k).clock = s.clock := rfl
@[simp] theorem State.flagCoach_alert (k : CoachKind) : (s.flagCoach k).alert = s.alert := rfl
@[simp] theorem State.flagCoach_ports (k : CoachKind) : (s.flagCoach k).ports = s.ports := rfl
@[simp] theorem State.flagCoach_timing (k : CoachKind) : (s.flagCoach k).timing = s.timing := rfl
@[simp] theorem State.flagCoach_senses (k : CoachKind) : (s.flagCoach k).senses = s.senses := rfl
@[simp] theorem State.flagCoach_lower (k : CoachKind) : (s.flagCoach k).lower = s.lower := rfl
@[simp] theorem State.flagCoach_upper (k : CoachKind) : (s.flagCoach k).upper = s.upper := rfl
@[simp] theorem State.flagCoach_responseMs (k : CoachKind) : (s.flagCoach k).responseMs = s.responseMs := rfl
@[simp] theorem State.flagCoach_feeds (k : CoachKind) : (s.flagCoach k).feeds = s.feeds := rfl
@[simp] theorem State.flagCoach_stallMs (k : CoachKind) : (s.flagCoach k).stallMs = s.stallMs := rfl
@[simp] theorem State.flagCoach_media (k : CoachKind) : (s.flagCoach k).media = s.media := rfl
@[simp] theorem State.flagCoach_digest (k : CoachKind) : (s.flagCoach k).digest = s.digest := rfl
@[simp] theorem State.flagCoach_reply (k : CoachKind) : (s.flagCoach k).reply = s.reply := rfl
@[simp] theorem State.flagCoach_miso (k : CoachKind) : (s.flagCoach k).miso = s.miso := rfl
@[simp] theorem State.flagCoach_free (k : CoachKind) : (s.flagCoach k).free = s.free := rfl

/-! ### judgeAttn -/

@[simp] theorem State.judgeAttn_pending : (s.judgeAttn).pending = s.pending := rfl
@[simp] theorem State.judgeAttn_slots : (s.judgeAttn).slots = s.slots := rfl
@[simp] theorem State.judgeAttn_roster : (s.judgeAttn).roster = s.roster := rfl
@[simp] theorem State.judgeAttn_quiet : (s.judgeAttn).quiet = s.quiet := rfl
@[simp] theorem State.judgeAttn_policy : (s.judgeAttn).policy = s.policy := rfl
@[simp] theorem State.judgeAttn_wake : (s.judgeAttn).wake = s.wake := rfl
@[simp] theorem State.judgeAttn_windowMs : (s.judgeAttn).windowMs = s.windowMs := rfl
@[simp] theorem State.judgeAttn_calls : (s.judgeAttn).calls = s.calls := rfl
@[simp] theorem State.judgeAttn_clock : (s.judgeAttn).clock = s.clock := rfl
@[simp] theorem State.judgeAttn_alert : (s.judgeAttn).alert = s.alert := rfl
@[simp] theorem State.judgeAttn_ports : (s.judgeAttn).ports = s.ports := rfl
@[simp] theorem State.judgeAttn_timing : (s.judgeAttn).timing = s.timing := rfl
@[simp] theorem State.judgeAttn_senses : (s.judgeAttn).senses = s.senses := rfl
@[simp] theorem State.judgeAttn_lower : (s.judgeAttn).lower = s.lower := rfl
@[simp] theorem State.judgeAttn_upper : (s.judgeAttn).upper = s.upper := rfl
@[simp] theorem State.judgeAttn_responseMs : (s.judgeAttn).responseMs = s.responseMs := rfl
@[simp] theorem State.judgeAttn_feeds : (s.judgeAttn).feeds = s.feeds := rfl
@[simp] theorem State.judgeAttn_stallMs : (s.judgeAttn).stallMs = s.stallMs := rfl
@[simp] theorem State.judgeAttn_media : (s.judgeAttn).media = s.media := rfl
@[simp] theorem State.judgeAttn_digest : (s.judgeAttn).digest = s.digest := rfl
@[simp] theorem State.judgeAttn_reply : (s.judgeAttn).reply = s.reply := rfl
@[simp] theorem State.judgeAttn_miso : (s.judgeAttn).miso = s.miso := rfl
@[simp] theorem State.judgeAttn_free : (s.judgeAttn).free = s.free := rfl

/-! ### refresh -/

@[simp] theorem State.refresh_pending : (s.refresh).pending = s.pending := by unfold State.refresh; rfl
@[simp] theorem State.refresh_slots : (s.refresh).slots = s.slots := by unfold State.refresh; rfl
@[simp] theorem State.refresh_quiet : (s.refresh).quiet = s.quiet := by unfold State.refresh; rfl
@[simp] theorem State.refresh_policy : (s.refresh).policy = s.policy := by unfold State.refresh; rfl
@[simp] theorem State.refresh_wake : (s.refresh).wake = s.wake := by unfold State.refresh; rfl
@[simp] theorem State.refresh_windowMs : (s.refresh).windowMs = s.windowMs := by unfold State.refresh; rfl
@[simp] theorem State.refresh_calls : (s.refresh).calls = s.calls := by unfold State.refresh; rfl
@[simp] theorem State.refresh_clock : (s.refresh).clock = s.clock := by unfold State.refresh; rfl
@[simp] theorem State.refresh_alert : (s.refresh).alert = s.alert := by unfold State.refresh; rfl
@[simp] theorem State.refresh_timing : (s.refresh).timing = s.timing := by unfold State.refresh; rfl
@[simp] theorem State.refresh_senses : (s.refresh).senses = s.senses := by unfold State.refresh; rfl
@[simp] theorem State.refresh_lower : (s.refresh).lower = s.lower := by unfold State.refresh; rfl
@[simp] theorem State.refresh_upper : (s.refresh).upper = s.upper := by unfold State.refresh; rfl
@[simp] theorem State.refresh_responseMs : (s.refresh).responseMs = s.responseMs := by unfold State.refresh; rfl
@[simp] theorem State.refresh_feeds : (s.refresh).feeds = s.feeds := by unfold State.refresh; rfl
@[simp] theorem State.refresh_stallMs : (s.refresh).stallMs = s.stallMs := by unfold State.refresh; rfl
@[simp] theorem State.refresh_media : (s.refresh).media = s.media := by unfold State.refresh; rfl
@[simp] theorem State.refresh_events : (s.refresh).events = s.events := by unfold State.refresh; rfl
@[simp] theorem State.refresh_digest : (s.refresh).digest = s.digest := by unfold State.refresh; rfl
@[simp] theorem State.refresh_reply : (s.refresh).reply = s.reply := by unfold State.refresh; rfl
@[simp] theorem State.refresh_miso : (s.refresh).miso = s.miso := by unfold State.refresh; rfl
@[simp] theorem State.refresh_free : (s.refresh).free = s.free := by unfold State.refresh; rfl

/-! ### atDesk -/

@[simp] theorem State.atDesk_pending (f : State → Desk → Desk) : (s.atDesk f).pending = s.pending := rfl
@[simp] theorem State.atDesk_slots (f : State → Desk → Desk) : (s.atDesk f).slots = s.slots := rfl
@[simp] theorem State.atDesk_quiet (f : State → Desk → Desk) : (s.atDesk f).quiet = s.quiet := rfl
@[simp] theorem State.atDesk_policy (f : State → Desk → Desk) : (s.atDesk f).policy = s.policy := rfl
@[simp] theorem State.atDesk_wake (f : State → Desk → Desk) : (s.atDesk f).wake = s.wake := rfl
@[simp] theorem State.atDesk_windowMs (f : State → Desk → Desk) : (s.atDesk f).windowMs = s.windowMs := rfl
@[simp] theorem State.atDesk_calls (f : State → Desk → Desk) : (s.atDesk f).calls = s.calls := rfl
@[simp] theorem State.atDesk_clock (f : State → Desk → Desk) : (s.atDesk f).clock = s.clock := rfl
@[simp] theorem State.atDesk_alert (f : State → Desk → Desk) : (s.atDesk f).alert = s.alert := rfl
@[simp] theorem State.atDesk_ports (f : State → Desk → Desk) : (s.atDesk f).ports = s.ports := rfl
@[simp] theorem State.atDesk_timing (f : State → Desk → Desk) : (s.atDesk f).timing = s.timing := rfl
@[simp] theorem State.atDesk_senses (f : State → Desk → Desk) : (s.atDesk f).senses = s.senses := rfl
@[simp] theorem State.atDesk_lower (f : State → Desk → Desk) : (s.atDesk f).lower = s.lower := rfl
@[simp] theorem State.atDesk_upper (f : State → Desk → Desk) : (s.atDesk f).upper = s.upper := rfl
@[simp] theorem State.atDesk_responseMs (f : State → Desk → Desk) : (s.atDesk f).responseMs = s.responseMs := rfl
@[simp] theorem State.atDesk_feeds (f : State → Desk → Desk) : (s.atDesk f).feeds = s.feeds := rfl
@[simp] theorem State.atDesk_stallMs (f : State → Desk → Desk) : (s.atDesk f).stallMs = s.stallMs := rfl
@[simp] theorem State.atDesk_media (f : State → Desk → Desk) : (s.atDesk f).media = s.media := rfl
@[simp] theorem State.atDesk_digest (f : State → Desk → Desk) : (s.atDesk f).digest = s.digest := rfl
@[simp] theorem State.atDesk_reply (f : State → Desk → Desk) : (s.atDesk f).reply = s.reply := rfl
@[simp] theorem State.atDesk_miso (f : State → Desk → Desk) : (s.atDesk f).miso = s.miso := rfl
@[simp] theorem State.atDesk_free (f : State → Desk → Desk) : (s.atDesk f).free = s.free := rfl

/-! ### dropCall -/

@[simp] theorem State.dropCall_pending (p : Port) : (s.dropCall p).pending = s.pending := rfl
@[simp] theorem State.dropCall_slots (p : Port) : (s.dropCall p).slots = s.slots := rfl
@[simp] theorem State.dropCall_roster (p : Port) : (s.dropCall p).roster = s.roster := rfl
@[simp] theorem State.dropCall_quiet (p : Port) : (s.dropCall p).quiet = s.quiet := rfl
@[simp] theorem State.dropCall_policy (p : Port) : (s.dropCall p).policy = s.policy := rfl
@[simp] theorem State.dropCall_wake (p : Port) : (s.dropCall p).wake = s.wake := rfl
@[simp] theorem State.dropCall_windowMs (p : Port) : (s.dropCall p).windowMs = s.windowMs := rfl
@[simp] theorem State.dropCall_clock (p : Port) : (s.dropCall p).clock = s.clock := rfl
@[simp] theorem State.dropCall_alert (p : Port) : (s.dropCall p).alert = s.alert := rfl
@[simp] theorem State.dropCall_ports (p : Port) : (s.dropCall p).ports = s.ports := rfl
@[simp] theorem State.dropCall_timing (p : Port) : (s.dropCall p).timing = s.timing := rfl
@[simp] theorem State.dropCall_senses (p : Port) : (s.dropCall p).senses = s.senses := rfl
@[simp] theorem State.dropCall_lower (p : Port) : (s.dropCall p).lower = s.lower := rfl
@[simp] theorem State.dropCall_upper (p : Port) : (s.dropCall p).upper = s.upper := rfl
@[simp] theorem State.dropCall_responseMs (p : Port) : (s.dropCall p).responseMs = s.responseMs := rfl
@[simp] theorem State.dropCall_feeds (p : Port) : (s.dropCall p).feeds = s.feeds := rfl
@[simp] theorem State.dropCall_stallMs (p : Port) : (s.dropCall p).stallMs = s.stallMs := rfl
@[simp] theorem State.dropCall_media (p : Port) : (s.dropCall p).media = s.media := rfl
@[simp] theorem State.dropCall_events (p : Port) : (s.dropCall p).events = s.events := rfl
@[simp] theorem State.dropCall_digest (p : Port) : (s.dropCall p).digest = s.digest := rfl
@[simp] theorem State.dropCall_reply (p : Port) : (s.dropCall p).reply = s.reply := rfl
@[simp] theorem State.dropCall_miso (p : Port) : (s.dropCall p).miso = s.miso := rfl
@[simp] theorem State.dropCall_free (p : Port) : (s.dropCall p).free = s.free := rfl

/-! ### dropWakeReason -/

@[simp] theorem State.dropWakeReason_pending (p : Port) : (s.dropWakeReason p).pending = s.pending := rfl
@[simp] theorem State.dropWakeReason_slots (p : Port) : (s.dropWakeReason p).slots = s.slots := rfl
@[simp] theorem State.dropWakeReason_roster (p : Port) : (s.dropWakeReason p).roster = s.roster := rfl
@[simp] theorem State.dropWakeReason_quiet (p : Port) : (s.dropWakeReason p).quiet = s.quiet := rfl
@[simp] theorem State.dropWakeReason_policy (p : Port) : (s.dropWakeReason p).policy = s.policy := rfl
@[simp] theorem State.dropWakeReason_wake (p : Port) : (s.dropWakeReason p).wake = s.wake := rfl
@[simp] theorem State.dropWakeReason_windowMs (p : Port) : (s.dropWakeReason p).windowMs = s.windowMs := rfl
@[simp] theorem State.dropWakeReason_clock (p : Port) : (s.dropWakeReason p).clock = s.clock := rfl
@[simp] theorem State.dropWakeReason_alert (p : Port) : (s.dropWakeReason p).alert = s.alert := rfl
@[simp] theorem State.dropWakeReason_ports (p : Port) : (s.dropWakeReason p).ports = s.ports := rfl
@[simp] theorem State.dropWakeReason_timing (p : Port) : (s.dropWakeReason p).timing = s.timing := rfl
@[simp] theorem State.dropWakeReason_senses (p : Port) : (s.dropWakeReason p).senses = s.senses := rfl
@[simp] theorem State.dropWakeReason_lower (p : Port) : (s.dropWakeReason p).lower = s.lower := rfl
@[simp] theorem State.dropWakeReason_upper (p : Port) : (s.dropWakeReason p).upper = s.upper := rfl
@[simp] theorem State.dropWakeReason_responseMs (p : Port) : (s.dropWakeReason p).responseMs = s.responseMs := rfl
@[simp] theorem State.dropWakeReason_feeds (p : Port) : (s.dropWakeReason p).feeds = s.feeds := rfl
@[simp] theorem State.dropWakeReason_stallMs (p : Port) : (s.dropWakeReason p).stallMs = s.stallMs := rfl
@[simp] theorem State.dropWakeReason_media (p : Port) : (s.dropWakeReason p).media = s.media := rfl
@[simp] theorem State.dropWakeReason_events (p : Port) : (s.dropWakeReason p).events = s.events := rfl
@[simp] theorem State.dropWakeReason_digest (p : Port) : (s.dropWakeReason p).digest = s.digest := rfl
@[simp] theorem State.dropWakeReason_reply (p : Port) : (s.dropWakeReason p).reply = s.reply := rfl
@[simp] theorem State.dropWakeReason_miso (p : Port) : (s.dropWakeReason p).miso = s.miso := rfl
@[simp] theorem State.dropWakeReason_free (p : Port) : (s.dropWakeReason p).free = s.free := rfl

/-! ### attendCall -/

@[simp] theorem State.attendCall_pending (p : Port) : (s.attendCall p).pending = s.pending := rfl
@[simp] theorem State.attendCall_slots (p : Port) : (s.attendCall p).slots = s.slots := rfl
@[simp] theorem State.attendCall_roster (p : Port) : (s.attendCall p).roster = s.roster := rfl
@[simp] theorem State.attendCall_quiet (p : Port) : (s.attendCall p).quiet = s.quiet := rfl
@[simp] theorem State.attendCall_policy (p : Port) : (s.attendCall p).policy = s.policy := rfl
@[simp] theorem State.attendCall_wake (p : Port) : (s.attendCall p).wake = s.wake := rfl
@[simp] theorem State.attendCall_windowMs (p : Port) : (s.attendCall p).windowMs = s.windowMs := rfl
@[simp] theorem State.attendCall_clock (p : Port) : (s.attendCall p).clock = s.clock := rfl
@[simp] theorem State.attendCall_alert (p : Port) : (s.attendCall p).alert = s.alert := rfl
@[simp] theorem State.attendCall_ports (p : Port) : (s.attendCall p).ports = s.ports := rfl
@[simp] theorem State.attendCall_timing (p : Port) : (s.attendCall p).timing = s.timing := rfl
@[simp] theorem State.attendCall_senses (p : Port) : (s.attendCall p).senses = s.senses := rfl
@[simp] theorem State.attendCall_lower (p : Port) : (s.attendCall p).lower = s.lower := rfl
@[simp] theorem State.attendCall_upper (p : Port) : (s.attendCall p).upper = s.upper := rfl
@[simp] theorem State.attendCall_responseMs (p : Port) : (s.attendCall p).responseMs = s.responseMs := rfl
@[simp] theorem State.attendCall_feeds (p : Port) : (s.attendCall p).feeds = s.feeds := rfl
@[simp] theorem State.attendCall_stallMs (p : Port) : (s.attendCall p).stallMs = s.stallMs := rfl
@[simp] theorem State.attendCall_media (p : Port) : (s.attendCall p).media = s.media := rfl
@[simp] theorem State.attendCall_events (p : Port) : (s.attendCall p).events = s.events := rfl
@[simp] theorem State.attendCall_digest (p : Port) : (s.attendCall p).digest = s.digest := rfl
@[simp] theorem State.attendCall_reply (p : Port) : (s.attendCall p).reply = s.reply := rfl
@[simp] theorem State.attendCall_miso (p : Port) : (s.attendCall p).miso = s.miso := rfl
@[simp] theorem State.attendCall_free (p : Port) : (s.attendCall p).free = s.free := rfl

/-! ### mapFeed -/

@[simp] theorem State.mapFeed_pending (f : FeedIx) (g : Feed → Feed) : (s.mapFeed f g).pending = s.pending := rfl
@[simp] theorem State.mapFeed_slots (f : FeedIx) (g : Feed → Feed) : (s.mapFeed f g).slots = s.slots := rfl
@[simp] theorem State.mapFeed_roster (f : FeedIx) (g : Feed → Feed) : (s.mapFeed f g).roster = s.roster := rfl
@[simp] theorem State.mapFeed_quiet (f : FeedIx) (g : Feed → Feed) : (s.mapFeed f g).quiet = s.quiet := rfl
@[simp] theorem State.mapFeed_policy (f : FeedIx) (g : Feed → Feed) : (s.mapFeed f g).policy = s.policy := rfl
@[simp] theorem State.mapFeed_wake (f : FeedIx) (g : Feed → Feed) : (s.mapFeed f g).wake = s.wake := rfl
@[simp] theorem State.mapFeed_windowMs (f : FeedIx) (g : Feed → Feed) : (s.mapFeed f g).windowMs = s.windowMs := rfl
@[simp] theorem State.mapFeed_calls (f : FeedIx) (g : Feed → Feed) : (s.mapFeed f g).calls = s.calls := rfl
@[simp] theorem State.mapFeed_clock (f : FeedIx) (g : Feed → Feed) : (s.mapFeed f g).clock = s.clock := rfl
@[simp] theorem State.mapFeed_alert (f : FeedIx) (g : Feed → Feed) : (s.mapFeed f g).alert = s.alert := rfl
@[simp] theorem State.mapFeed_ports (f : FeedIx) (g : Feed → Feed) : (s.mapFeed f g).ports = s.ports := rfl
@[simp] theorem State.mapFeed_timing (f : FeedIx) (g : Feed → Feed) : (s.mapFeed f g).timing = s.timing := rfl
@[simp] theorem State.mapFeed_senses (f : FeedIx) (g : Feed → Feed) : (s.mapFeed f g).senses = s.senses := rfl
@[simp] theorem State.mapFeed_lower (f : FeedIx) (g : Feed → Feed) : (s.mapFeed f g).lower = s.lower := rfl
@[simp] theorem State.mapFeed_upper (f : FeedIx) (g : Feed → Feed) : (s.mapFeed f g).upper = s.upper := rfl
@[simp] theorem State.mapFeed_responseMs (f : FeedIx) (g : Feed → Feed) : (s.mapFeed f g).responseMs = s.responseMs := rfl
@[simp] theorem State.mapFeed_stallMs (f : FeedIx) (g : Feed → Feed) : (s.mapFeed f g).stallMs = s.stallMs := rfl
@[simp] theorem State.mapFeed_media (f : FeedIx) (g : Feed → Feed) : (s.mapFeed f g).media = s.media := rfl
@[simp] theorem State.mapFeed_events (f : FeedIx) (g : Feed → Feed) : (s.mapFeed f g).events = s.events := rfl
@[simp] theorem State.mapFeed_digest (f : FeedIx) (g : Feed → Feed) : (s.mapFeed f g).digest = s.digest := rfl
@[simp] theorem State.mapFeed_reply (f : FeedIx) (g : Feed → Feed) : (s.mapFeed f g).reply = s.reply := rfl
@[simp] theorem State.mapFeed_miso (f : FeedIx) (g : Feed → Feed) : (s.mapFeed f g).miso = s.miso := rfl
@[simp] theorem State.mapFeed_free (f : FeedIx) (g : Feed → Feed) : (s.mapFeed f g).free = s.free := rfl

/-! ### useFree -/

@[simp] theorem State.useFree_pending (n : Nat) : (s.useFree n).pending = s.pending := rfl
@[simp] theorem State.useFree_slots (n : Nat) : (s.useFree n).slots = s.slots := rfl
@[simp] theorem State.useFree_roster (n : Nat) : (s.useFree n).roster = s.roster := rfl
@[simp] theorem State.useFree_quiet (n : Nat) : (s.useFree n).quiet = s.quiet := rfl
@[simp] theorem State.useFree_policy (n : Nat) : (s.useFree n).policy = s.policy := rfl
@[simp] theorem State.useFree_wake (n : Nat) : (s.useFree n).wake = s.wake := rfl
@[simp] theorem State.useFree_windowMs (n : Nat) : (s.useFree n).windowMs = s.windowMs := rfl
@[simp] theorem State.useFree_calls (n : Nat) : (s.useFree n).calls = s.calls := rfl
@[simp] theorem State.useFree_clock (n : Nat) : (s.useFree n).clock = s.clock := rfl
@[simp] theorem State.useFree_alert (n : Nat) : (s.useFree n).alert = s.alert := rfl
@[simp] theorem State.useFree_ports (n : Nat) : (s.useFree n).ports = s.ports := rfl
@[simp] theorem State.useFree_timing (n : Nat) : (s.useFree n).timing = s.timing := rfl
@[simp] theorem State.useFree_senses (n : Nat) : (s.useFree n).senses = s.senses := rfl
@[simp] theorem State.useFree_lower (n : Nat) : (s.useFree n).lower = s.lower := rfl
@[simp] theorem State.useFree_upper (n : Nat) : (s.useFree n).upper = s.upper := rfl
@[simp] theorem State.useFree_responseMs (n : Nat) : (s.useFree n).responseMs = s.responseMs := rfl
@[simp] theorem State.useFree_feeds (n : Nat) : (s.useFree n).feeds = s.feeds := rfl
@[simp] theorem State.useFree_stallMs (n : Nat) : (s.useFree n).stallMs = s.stallMs := rfl
@[simp] theorem State.useFree_media (n : Nat) : (s.useFree n).media = s.media := rfl
@[simp] theorem State.useFree_events (n : Nat) : (s.useFree n).events = s.events := rfl
@[simp] theorem State.useFree_digest (n : Nat) : (s.useFree n).digest = s.digest := rfl
@[simp] theorem State.useFree_reply (n : Nat) : (s.useFree n).reply = s.reply := rfl
@[simp] theorem State.useFree_miso (n : Nat) : (s.useFree n).miso = s.miso := rfl

/-! ### alertTo -/

@[simp] theorem State.alertTo_pending (st : AlertState) : (s.alertTo st).pending = s.pending := rfl
@[simp] theorem State.alertTo_slots (st : AlertState) : (s.alertTo st).slots = s.slots := rfl
@[simp] theorem State.alertTo_roster (st : AlertState) : (s.alertTo st).roster = s.roster := rfl
@[simp] theorem State.alertTo_quiet (st : AlertState) : (s.alertTo st).quiet = s.quiet := rfl
@[simp] theorem State.alertTo_policy (st : AlertState) : (s.alertTo st).policy = s.policy := rfl
@[simp] theorem State.alertTo_wake (st : AlertState) : (s.alertTo st).wake = s.wake := rfl
@[simp] theorem State.alertTo_windowMs (st : AlertState) : (s.alertTo st).windowMs = s.windowMs := rfl
@[simp] theorem State.alertTo_calls (st : AlertState) : (s.alertTo st).calls = s.calls := rfl
@[simp] theorem State.alertTo_clock (st : AlertState) : (s.alertTo st).clock = s.clock := rfl
@[simp] theorem State.alertTo_ports (st : AlertState) : (s.alertTo st).ports = s.ports := rfl
@[simp] theorem State.alertTo_timing (st : AlertState) : (s.alertTo st).timing = s.timing := rfl
@[simp] theorem State.alertTo_senses (st : AlertState) : (s.alertTo st).senses = s.senses := rfl
@[simp] theorem State.alertTo_lower (st : AlertState) : (s.alertTo st).lower = s.lower := rfl
@[simp] theorem State.alertTo_upper (st : AlertState) : (s.alertTo st).upper = s.upper := rfl
@[simp] theorem State.alertTo_responseMs (st : AlertState) : (s.alertTo st).responseMs = s.responseMs := rfl
@[simp] theorem State.alertTo_feeds (st : AlertState) : (s.alertTo st).feeds = s.feeds := rfl
@[simp] theorem State.alertTo_stallMs (st : AlertState) : (s.alertTo st).stallMs = s.stallMs := rfl
@[simp] theorem State.alertTo_media (st : AlertState) : (s.alertTo st).media = s.media := rfl
@[simp] theorem State.alertTo_events (st : AlertState) : (s.alertTo st).events = s.events := rfl
@[simp] theorem State.alertTo_digest (st : AlertState) : (s.alertTo st).digest = s.digest := rfl
@[simp] theorem State.alertTo_reply (st : AlertState) : (s.alertTo st).reply = s.reply := rfl
@[simp] theorem State.alertTo_miso (st : AlertState) : (s.alertTo st).miso = s.miso := rfl
@[simp] theorem State.alertTo_free (st : AlertState) : (s.alertTo st).free = s.free := rfl

/-! ### alertLevel -/

@[simp] theorem State.alertLevel_pending (l : Level) : (s.alertLevel l).pending = s.pending := rfl
@[simp] theorem State.alertLevel_slots (l : Level) : (s.alertLevel l).slots = s.slots := rfl
@[simp] theorem State.alertLevel_roster (l : Level) : (s.alertLevel l).roster = s.roster := rfl
@[simp] theorem State.alertLevel_quiet (l : Level) : (s.alertLevel l).quiet = s.quiet := rfl
@[simp] theorem State.alertLevel_policy (l : Level) : (s.alertLevel l).policy = s.policy := rfl
@[simp] theorem State.alertLevel_wake (l : Level) : (s.alertLevel l).wake = s.wake := rfl
@[simp] theorem State.alertLevel_windowMs (l : Level) : (s.alertLevel l).windowMs = s.windowMs := rfl
@[simp] theorem State.alertLevel_calls (l : Level) : (s.alertLevel l).calls = s.calls := rfl
@[simp] theorem State.alertLevel_clock (l : Level) : (s.alertLevel l).clock = s.clock := rfl
@[simp] theorem State.alertLevel_ports (l : Level) : (s.alertLevel l).ports = s.ports := rfl
@[simp] theorem State.alertLevel_timing (l : Level) : (s.alertLevel l).timing = s.timing := rfl
@[simp] theorem State.alertLevel_senses (l : Level) : (s.alertLevel l).senses = s.senses := rfl
@[simp] theorem State.alertLevel_lower (l : Level) : (s.alertLevel l).lower = s.lower := rfl
@[simp] theorem State.alertLevel_upper (l : Level) : (s.alertLevel l).upper = s.upper := rfl
@[simp] theorem State.alertLevel_responseMs (l : Level) : (s.alertLevel l).responseMs = s.responseMs := rfl
@[simp] theorem State.alertLevel_feeds (l : Level) : (s.alertLevel l).feeds = s.feeds := rfl
@[simp] theorem State.alertLevel_stallMs (l : Level) : (s.alertLevel l).stallMs = s.stallMs := rfl
@[simp] theorem State.alertLevel_media (l : Level) : (s.alertLevel l).media = s.media := rfl
@[simp] theorem State.alertLevel_events (l : Level) : (s.alertLevel l).events = s.events := rfl
@[simp] theorem State.alertLevel_digest (l : Level) : (s.alertLevel l).digest = s.digest := rfl
@[simp] theorem State.alertLevel_reply (l : Level) : (s.alertLevel l).reply = s.reply := rfl
@[simp] theorem State.alertLevel_miso (l : Level) : (s.alertLevel l).miso = s.miso := rfl
@[simp] theorem State.alertLevel_free (l : Level) : (s.alertLevel l).free = s.free := rfl

/-! ### sensePresence -/

@[simp] theorem State.sensePresence_pending (p : Port) (b : Bool) : (s.sensePresence p b).pending = s.pending := rfl
@[simp] theorem State.sensePresence_slots (p : Port) (b : Bool) : (s.sensePresence p b).slots = s.slots := rfl
@[simp] theorem State.sensePresence_roster (p : Port) (b : Bool) : (s.sensePresence p b).roster = s.roster := rfl
@[simp] theorem State.sensePresence_quiet (p : Port) (b : Bool) : (s.sensePresence p b).quiet = s.quiet := rfl
@[simp] theorem State.sensePresence_policy (p : Port) (b : Bool) : (s.sensePresence p b).policy = s.policy := rfl
@[simp] theorem State.sensePresence_wake (p : Port) (b : Bool) : (s.sensePresence p b).wake = s.wake := rfl
@[simp] theorem State.sensePresence_windowMs (p : Port) (b : Bool) : (s.sensePresence p b).windowMs = s.windowMs := rfl
@[simp] theorem State.sensePresence_calls (p : Port) (b : Bool) : (s.sensePresence p b).calls = s.calls := rfl
@[simp] theorem State.sensePresence_clock (p : Port) (b : Bool) : (s.sensePresence p b).clock = s.clock := rfl
@[simp] theorem State.sensePresence_alert (p : Port) (b : Bool) : (s.sensePresence p b).alert = s.alert := rfl
@[simp] theorem State.sensePresence_ports (p : Port) (b : Bool) : (s.sensePresence p b).ports = s.ports := rfl
@[simp] theorem State.sensePresence_timing (p : Port) (b : Bool) : (s.sensePresence p b).timing = s.timing := rfl
@[simp] theorem State.sensePresence_lower (p : Port) (b : Bool) : (s.sensePresence p b).lower = s.lower := rfl
@[simp] theorem State.sensePresence_upper (p : Port) (b : Bool) : (s.sensePresence p b).upper = s.upper := rfl
@[simp] theorem State.sensePresence_responseMs (p : Port) (b : Bool) : (s.sensePresence p b).responseMs = s.responseMs := rfl
@[simp] theorem State.sensePresence_feeds (p : Port) (b : Bool) : (s.sensePresence p b).feeds = s.feeds := rfl
@[simp] theorem State.sensePresence_stallMs (p : Port) (b : Bool) : (s.sensePresence p b).stallMs = s.stallMs := rfl
@[simp] theorem State.sensePresence_media (p : Port) (b : Bool) : (s.sensePresence p b).media = s.media := rfl
@[simp] theorem State.sensePresence_events (p : Port) (b : Bool) : (s.sensePresence p b).events = s.events := rfl
@[simp] theorem State.sensePresence_digest (p : Port) (b : Bool) : (s.sensePresence p b).digest = s.digest := rfl
@[simp] theorem State.sensePresence_reply (p : Port) (b : Bool) : (s.sensePresence p b).reply = s.reply := rfl
@[simp] theorem State.sensePresence_miso (p : Port) (b : Bool) : (s.sensePresence p b).miso = s.miso := rfl
@[simp] theorem State.sensePresence_free (p : Port) (b : Bool) : (s.sensePresence p b).free = s.free := rfl

/-! ### senseFault -/

@[simp] theorem State.senseFault_pending (p : Port) (b : Bool) : (s.senseFault p b).pending = s.pending := rfl
@[simp] theorem State.senseFault_slots (p : Port) (b : Bool) : (s.senseFault p b).slots = s.slots := rfl
@[simp] theorem State.senseFault_roster (p : Port) (b : Bool) : (s.senseFault p b).roster = s.roster := rfl
@[simp] theorem State.senseFault_quiet (p : Port) (b : Bool) : (s.senseFault p b).quiet = s.quiet := rfl
@[simp] theorem State.senseFault_policy (p : Port) (b : Bool) : (s.senseFault p b).policy = s.policy := rfl
@[simp] theorem State.senseFault_wake (p : Port) (b : Bool) : (s.senseFault p b).wake = s.wake := rfl
@[simp] theorem State.senseFault_windowMs (p : Port) (b : Bool) : (s.senseFault p b).windowMs = s.windowMs := rfl
@[simp] theorem State.senseFault_calls (p : Port) (b : Bool) : (s.senseFault p b).calls = s.calls := rfl
@[simp] theorem State.senseFault_clock (p : Port) (b : Bool) : (s.senseFault p b).clock = s.clock := rfl
@[simp] theorem State.senseFault_alert (p : Port) (b : Bool) : (s.senseFault p b).alert = s.alert := rfl
@[simp] theorem State.senseFault_ports (p : Port) (b : Bool) : (s.senseFault p b).ports = s.ports := rfl
@[simp] theorem State.senseFault_timing (p : Port) (b : Bool) : (s.senseFault p b).timing = s.timing := rfl
@[simp] theorem State.senseFault_lower (p : Port) (b : Bool) : (s.senseFault p b).lower = s.lower := rfl
@[simp] theorem State.senseFault_upper (p : Port) (b : Bool) : (s.senseFault p b).upper = s.upper := rfl
@[simp] theorem State.senseFault_responseMs (p : Port) (b : Bool) : (s.senseFault p b).responseMs = s.responseMs := rfl
@[simp] theorem State.senseFault_feeds (p : Port) (b : Bool) : (s.senseFault p b).feeds = s.feeds := rfl
@[simp] theorem State.senseFault_stallMs (p : Port) (b : Bool) : (s.senseFault p b).stallMs = s.stallMs := rfl
@[simp] theorem State.senseFault_media (p : Port) (b : Bool) : (s.senseFault p b).media = s.media := rfl
@[simp] theorem State.senseFault_events (p : Port) (b : Bool) : (s.senseFault p b).events = s.events := rfl
@[simp] theorem State.senseFault_digest (p : Port) (b : Bool) : (s.senseFault p b).digest = s.digest := rfl
@[simp] theorem State.senseFault_reply (p : Port) (b : Bool) : (s.senseFault p b).reply = s.reply := rfl
@[simp] theorem State.senseFault_miso (p : Port) (b : Bool) : (s.senseFault p b).miso = s.miso := rfl
@[simp] theorem State.senseFault_free (p : Port) (b : Bool) : (s.senseFault p b).free = s.free := rfl

/-! ### copyIfIdle -/

@[simp] theorem State.copyIfIdle_pending : (s.copyIfIdle).pending = s.pending := by unfold State.copyIfIdle; split <;> rfl
@[simp] theorem State.copyIfIdle_slots : (s.copyIfIdle).slots = s.slots := by unfold State.copyIfIdle; split <;> rfl
@[simp] theorem State.copyIfIdle_roster : (s.copyIfIdle).roster = s.roster := by unfold State.copyIfIdle; split <;> rfl
@[simp] theorem State.copyIfIdle_quiet : (s.copyIfIdle).quiet = s.quiet := by unfold State.copyIfIdle; split <;> rfl
@[simp] theorem State.copyIfIdle_policy : (s.copyIfIdle).policy = s.policy := by unfold State.copyIfIdle; split <;> rfl
@[simp] theorem State.copyIfIdle_windowMs : (s.copyIfIdle).windowMs = s.windowMs := by unfold State.copyIfIdle; split <;> rfl
@[simp] theorem State.copyIfIdle_calls : (s.copyIfIdle).calls = s.calls := by unfold State.copyIfIdle; split <;> rfl
@[simp] theorem State.copyIfIdle_clock : (s.copyIfIdle).clock = s.clock := by unfold State.copyIfIdle; split <;> rfl
@[simp] theorem State.copyIfIdle_alert : (s.copyIfIdle).alert = s.alert := by unfold State.copyIfIdle; split <;> rfl
@[simp] theorem State.copyIfIdle_ports : (s.copyIfIdle).ports = s.ports := by unfold State.copyIfIdle; split <;> rfl
@[simp] theorem State.copyIfIdle_timing : (s.copyIfIdle).timing = s.timing := by unfold State.copyIfIdle; split <;> rfl
@[simp] theorem State.copyIfIdle_senses : (s.copyIfIdle).senses = s.senses := by unfold State.copyIfIdle; split <;> rfl
@[simp] theorem State.copyIfIdle_lower : (s.copyIfIdle).lower = s.lower := by unfold State.copyIfIdle; split <;> rfl
@[simp] theorem State.copyIfIdle_upper : (s.copyIfIdle).upper = s.upper := by unfold State.copyIfIdle; split <;> rfl
@[simp] theorem State.copyIfIdle_responseMs : (s.copyIfIdle).responseMs = s.responseMs := by unfold State.copyIfIdle; split <;> rfl
@[simp] theorem State.copyIfIdle_feeds : (s.copyIfIdle).feeds = s.feeds := by unfold State.copyIfIdle; split <;> rfl
@[simp] theorem State.copyIfIdle_stallMs : (s.copyIfIdle).stallMs = s.stallMs := by unfold State.copyIfIdle; split <;> rfl
@[simp] theorem State.copyIfIdle_media : (s.copyIfIdle).media = s.media := by unfold State.copyIfIdle; split <;> rfl
@[simp] theorem State.copyIfIdle_events : (s.copyIfIdle).events = s.events := by unfold State.copyIfIdle; split <;> rfl
@[simp] theorem State.copyIfIdle_digest : (s.copyIfIdle).digest = s.digest := by unfold State.copyIfIdle; split <;> rfl
@[simp] theorem State.copyIfIdle_reply : (s.copyIfIdle).reply = s.reply := by unfold State.copyIfIdle; split <;> rfl
@[simp] theorem State.copyIfIdle_miso : (s.copyIfIdle).miso = s.miso := by unfold State.copyIfIdle; split <;> rfl
@[simp] theorem State.copyIfIdle_free : (s.copyIfIdle).free = s.free := by unfold State.copyIfIdle; split <;> rfl

/-! ### raiseCall -/

@[simp] theorem State.raiseCall_pending (p : Port) (r : CallReason) : (s.raiseCall p r).pending = s.pending := by
  unfold State.raiseCall; (repeat' split) <;> rfl
@[simp] theorem State.raiseCall_slots (p : Port) (r : CallReason) : (s.raiseCall p r).slots = s.slots := by
  unfold State.raiseCall; (repeat' split) <;> rfl
@[simp] theorem State.raiseCall_roster (p : Port) (r : CallReason) : (s.raiseCall p r).roster = s.roster := by
  unfold State.raiseCall; (repeat' split) <;> rfl
@[simp] theorem State.raiseCall_quiet (p : Port) (r : CallReason) : (s.raiseCall p r).quiet = s.quiet := by
  unfold State.raiseCall; (repeat' split) <;> rfl
@[simp] theorem State.raiseCall_policy (p : Port) (r : CallReason) : (s.raiseCall p r).policy = s.policy := by
  unfold State.raiseCall; (repeat' split) <;> rfl
@[simp] theorem State.raiseCall_wake (p : Port) (r : CallReason) : (s.raiseCall p r).wake = s.wake := by
  unfold State.raiseCall; (repeat' split) <;> rfl
@[simp] theorem State.raiseCall_windowMs (p : Port) (r : CallReason) : (s.raiseCall p r).windowMs = s.windowMs := by
  unfold State.raiseCall; (repeat' split) <;> rfl
@[simp] theorem State.raiseCall_clock (p : Port) (r : CallReason) : (s.raiseCall p r).clock = s.clock := by
  unfold State.raiseCall; (repeat' split) <;> rfl
@[simp] theorem State.raiseCall_alert (p : Port) (r : CallReason) : (s.raiseCall p r).alert = s.alert := by
  unfold State.raiseCall; (repeat' split) <;> rfl
@[simp] theorem State.raiseCall_timing (p : Port) (r : CallReason) : (s.raiseCall p r).timing = s.timing := by
  unfold State.raiseCall; (repeat' split) <;> rfl
@[simp] theorem State.raiseCall_senses (p : Port) (r : CallReason) : (s.raiseCall p r).senses = s.senses := by
  unfold State.raiseCall; (repeat' split) <;> rfl
@[simp] theorem State.raiseCall_lower (p : Port) (r : CallReason) : (s.raiseCall p r).lower = s.lower := by
  unfold State.raiseCall; (repeat' split) <;> rfl
@[simp] theorem State.raiseCall_upper (p : Port) (r : CallReason) : (s.raiseCall p r).upper = s.upper := by
  unfold State.raiseCall; (repeat' split) <;> rfl
@[simp] theorem State.raiseCall_responseMs (p : Port) (r : CallReason) : (s.raiseCall p r).responseMs = s.responseMs := by
  unfold State.raiseCall; (repeat' split) <;> rfl
@[simp] theorem State.raiseCall_feeds (p : Port) (r : CallReason) : (s.raiseCall p r).feeds = s.feeds := by
  unfold State.raiseCall; (repeat' split) <;> rfl
@[simp] theorem State.raiseCall_stallMs (p : Port) (r : CallReason) : (s.raiseCall p r).stallMs = s.stallMs := by
  unfold State.raiseCall; (repeat' split) <;> rfl
@[simp] theorem State.raiseCall_media (p : Port) (r : CallReason) : (s.raiseCall p r).media = s.media := by
  unfold State.raiseCall; (repeat' split) <;> rfl
@[simp] theorem State.raiseCall_events (p : Port) (r : CallReason) : (s.raiseCall p r).events = s.events := by
  unfold State.raiseCall; (repeat' split) <;> rfl
@[simp] theorem State.raiseCall_digest (p : Port) (r : CallReason) : (s.raiseCall p r).digest = s.digest := by
  unfold State.raiseCall; (repeat' split) <;> rfl
@[simp] theorem State.raiseCall_reply (p : Port) (r : CallReason) : (s.raiseCall p r).reply = s.reply := by
  unfold State.raiseCall; (repeat' split) <;> rfl
@[simp] theorem State.raiseCall_miso (p : Port) (r : CallReason) : (s.raiseCall p r).miso = s.miso := by
  unfold State.raiseCall; (repeat' split) <;> rfl
@[simp] theorem State.raiseCall_free (p : Port) (r : CallReason) : (s.raiseCall p r).free = s.free := by
  unfold State.raiseCall; (repeat' split) <;> rfl

/-! ### mapPoller -/

@[simp] theorem State.mapPoller_pending (d : Deck) (f : Poller → Poller) : (s.mapPoller d f).pending = s.pending := by cases d <;> rfl
@[simp] theorem State.mapPoller_slots (d : Deck) (f : Poller → Poller) : (s.mapPoller d f).slots = s.slots := by cases d <;> rfl
@[simp] theorem State.mapPoller_roster (d : Deck) (f : Poller → Poller) : (s.mapPoller d f).roster = s.roster := by cases d <;> rfl
@[simp] theorem State.mapPoller_quiet (d : Deck) (f : Poller → Poller) : (s.mapPoller d f).quiet = s.quiet := by cases d <;> rfl
@[simp] theorem State.mapPoller_policy (d : Deck) (f : Poller → Poller) : (s.mapPoller d f).policy = s.policy := by cases d <;> rfl
@[simp] theorem State.mapPoller_wake (d : Deck) (f : Poller → Poller) : (s.mapPoller d f).wake = s.wake := by cases d <;> rfl
@[simp] theorem State.mapPoller_windowMs (d : Deck) (f : Poller → Poller) : (s.mapPoller d f).windowMs = s.windowMs := by cases d <;> rfl
@[simp] theorem State.mapPoller_calls (d : Deck) (f : Poller → Poller) : (s.mapPoller d f).calls = s.calls := by cases d <;> rfl
@[simp] theorem State.mapPoller_clock (d : Deck) (f : Poller → Poller) : (s.mapPoller d f).clock = s.clock := by cases d <;> rfl
@[simp] theorem State.mapPoller_alert (d : Deck) (f : Poller → Poller) : (s.mapPoller d f).alert = s.alert := by cases d <;> rfl
@[simp] theorem State.mapPoller_ports (d : Deck) (f : Poller → Poller) : (s.mapPoller d f).ports = s.ports := by cases d <;> rfl
@[simp] theorem State.mapPoller_timing (d : Deck) (f : Poller → Poller) : (s.mapPoller d f).timing = s.timing := by cases d <;> rfl
@[simp] theorem State.mapPoller_senses (d : Deck) (f : Poller → Poller) : (s.mapPoller d f).senses = s.senses := by cases d <;> rfl
@[simp] theorem State.mapPoller_responseMs (d : Deck) (f : Poller → Poller) : (s.mapPoller d f).responseMs = s.responseMs := by cases d <;> rfl
@[simp] theorem State.mapPoller_feeds (d : Deck) (f : Poller → Poller) : (s.mapPoller d f).feeds = s.feeds := by cases d <;> rfl
@[simp] theorem State.mapPoller_stallMs (d : Deck) (f : Poller → Poller) : (s.mapPoller d f).stallMs = s.stallMs := by cases d <;> rfl
@[simp] theorem State.mapPoller_media (d : Deck) (f : Poller → Poller) : (s.mapPoller d f).media = s.media := by cases d <;> rfl
@[simp] theorem State.mapPoller_events (d : Deck) (f : Poller → Poller) : (s.mapPoller d f).events = s.events := by cases d <;> rfl
@[simp] theorem State.mapPoller_digest (d : Deck) (f : Poller → Poller) : (s.mapPoller d f).digest = s.digest := by cases d <;> rfl
@[simp] theorem State.mapPoller_reply (d : Deck) (f : Poller → Poller) : (s.mapPoller d f).reply = s.reply := by cases d <;> rfl
@[simp] theorem State.mapPoller_miso (d : Deck) (f : Poller → Poller) : (s.mapPoller d f).miso = s.miso := by cases d <;> rfl
@[simp] theorem State.mapPoller_free (d : Deck) (f : Poller → Poller) : (s.mapPoller d f).free = s.free := by cases d <;> rfl

/-! ### startTurn -/

@[simp] theorem State.startTurn_pending (d : Deck) : (s.startTurn d).pending = s.pending := by
  unfold State.startTurn; (repeat' split) <;> simp
@[simp] theorem State.startTurn_slots (d : Deck) : (s.startTurn d).slots = s.slots := by
  unfold State.startTurn; (repeat' split) <;> simp
@[simp] theorem State.startTurn_roster (d : Deck) : (s.startTurn d).roster = s.roster := by
  unfold State.startTurn; (repeat' split) <;> simp
@[simp] theorem State.startTurn_quiet (d : Deck) : (s.startTurn d).quiet = s.quiet := by
  unfold State.startTurn; (repeat' split) <;> simp
@[simp] theorem State.startTurn_policy (d : Deck) : (s.startTurn d).policy = s.policy := by
  unfold State.startTurn; (repeat' split) <;> simp
@[simp] theorem State.startTurn_wake (d : Deck) : (s.startTurn d).wake = s.wake := by
  unfold State.startTurn; (repeat' split) <;> simp
@[simp] theorem State.startTurn_windowMs (d : Deck) : (s.startTurn d).windowMs = s.windowMs := by
  unfold State.startTurn; (repeat' split) <;> simp
@[simp] theorem State.startTurn_calls (d : Deck) : (s.startTurn d).calls = s.calls := by
  unfold State.startTurn; (repeat' split) <;> simp
@[simp] theorem State.startTurn_clock (d : Deck) : (s.startTurn d).clock = s.clock := by
  unfold State.startTurn; (repeat' split) <;> simp
@[simp] theorem State.startTurn_alert (d : Deck) : (s.startTurn d).alert = s.alert := by
  unfold State.startTurn; (repeat' split) <;> simp
@[simp] theorem State.startTurn_timing (d : Deck) : (s.startTurn d).timing = s.timing := by
  unfold State.startTurn; (repeat' split) <;> simp
@[simp] theorem State.startTurn_senses (d : Deck) : (s.startTurn d).senses = s.senses := by
  unfold State.startTurn; (repeat' split) <;> simp
@[simp] theorem State.startTurn_responseMs (d : Deck) : (s.startTurn d).responseMs = s.responseMs := by
  unfold State.startTurn; (repeat' split) <;> simp
@[simp] theorem State.startTurn_feeds (d : Deck) : (s.startTurn d).feeds = s.feeds := by
  unfold State.startTurn; (repeat' split) <;> simp
@[simp] theorem State.startTurn_stallMs (d : Deck) : (s.startTurn d).stallMs = s.stallMs := by
  unfold State.startTurn; (repeat' split) <;> simp
@[simp] theorem State.startTurn_media (d : Deck) : (s.startTurn d).media = s.media := by
  unfold State.startTurn; (repeat' split) <;> simp
@[simp] theorem State.startTurn_digest (d : Deck) : (s.startTurn d).digest = s.digest := by
  unfold State.startTurn; (repeat' split) <;> simp
@[simp] theorem State.startTurn_reply (d : Deck) : (s.startTurn d).reply = s.reply := by
  unfold State.startTurn; (repeat' split) <;> simp
@[simp] theorem State.startTurn_miso (d : Deck) : (s.startTurn d).miso = s.miso := by
  unfold State.startTurn; (repeat' split) <;> simp
@[simp] theorem State.startTurn_free (d : Deck) : (s.startTurn d).free = s.free := by
  unfold State.startTurn; (repeat' split) <;> simp

end Sys2Proof.Machine
end

