-- ==== Sys2Proof/Laws/Resolver.lean ====
section
/-! SUPPORT. The Presentation Resolver: what `resolve` reads, and what `refresh` and `settle` leave (spec/02 R31, R40;
12 R177). -/

namespace Sys2Proof.Machine

open Sys2Proof

/-! ### Departures do not touch what the Resolver reads -/

@[simp] theorem Ann.depart_cls (v : Vector PortRec 40) (a : Ann) : (a.depart v).cls = a.cls := by
  unfold Ann.depart; split <;> rfl

@[simp] theorem Ann.depart_state (v : Vector PortRec 40) (a : Ann) : (a.depart v).state = a.state := by
  unfold Ann.depart; split <;> rfl

@[simp] theorem Ann.depart_audience (v : Vector PortRec 40) (a : Ann) : (a.depart v).audience = a.audience := by
  unfold Ann.depart; split <;> rfl

@[simp] theorem Ann.depart_channel (v : Vector PortRec 40) (a : Ann) : (a.depart v).channel = a.channel := by
  unfold Ann.depart; split <;> rfl

@[simp] theorem Ann.depart_source (v : Vector PortRec 40) (a : Ann) : (a.depart v).source = a.source := by
  unfold Ann.depart; split <;> rfl

@[simp] theorem Ann.depart_target (v : Vector PortRec 40) (a : Ann) : (a.depart v).target = a.target := by
  unfold Ann.depart; split <;> rfl

@[simp] theorem Ann.depart_owed (v : Vector PortRec 40) (a : Ann) : (a.depart v).owed = a.owed := by
  unfold Ann.depart; split <;> rfl

@[simp] theorem Ann.depart_outcome (v : Vector PortRec 40) (a : Ann) : (a.depart v).outcome = a.outcome := by
  unfold Ann.depart; split <;> rfl

/-- A departure changes the joined set alone. -/
theorem Ann.depart_eq (v : Vector PortRec 40) (a : Ann) : a.depart v = { a with joined := (a.depart v).joined } := by
  unfold Ann.depart; split <;> rfl

@[simp] theorem Ann.depart_onAir (v : Vector PortRec 40) (a : Ann) : (a.depart v).onAir = a.onAir := by
  simp [Ann.onAir]

@[simp] theorem Ann.depart_waits (v : Vector PortRec 40) (a : Ann) : (a.depart v).waits = a.waits := by
  simp [Ann.waits]

@[simp] theorem Roster.depart_order (v : Vector PortRec 40) (r : Roster) : (r.depart v).order = r.order := rfl

@[simp] theorem Roster.depart_counter (v : Vector PortRec 40) (r : Roster) : (r.depart v).counter = r.counter := rfl

/-- Each record departs on its own. -/
@[simp] theorem Roster.depart_rec (v : Vector PortRec 40) (r : Roster) (h : Handle) :
    (r.depart v).rec? h = (r.rec? h).map (Ann.depart v) := by
  simp [Roster.depart, Roster.rec?]

theorem Roster.depart_test (v : Vector PortRec 40) (r : Roster) (f : Ann → Bool) (hf : ∀ a, f (a.depart v) = f a)
    (h : Handle) : (r.depart v).test f h = r.test f h := by
  unfold Roster.test; rw [Roster.depart_rec]; cases r.rec? h <;> simp [hf]

@[simp] theorem Roster.depart_ranked (v : Vector PortRec 40) (r : Roster) : (r.depart v).ranked = r.ranked := by
  unfold Roster.ranked
  have key : ∀ c : AnnClass, (r.depart v).test (fun a => decide (a.cls = c)) = r.test fun a => decide (a.cls = c) := by
    intro c; funext h; exact Roster.depart_test v r _ (by simp) h
  simp [key]

/-- The current announcement of a berth departs like any record. -/
theorem Roster.depart_current (v : Vector PortRec 40) (r : Roster) (p : Port) :
    (r.depart v).current p = (r.current p).map fun x => (x.1.depart v, x.2) := by
  unfold Roster.current
  rw [Roster.depart_ranked, List.map_findSome?]
  congr 1
  funext h
  simp only [Roster.depart_rec, Function.comp]
  cases r.rec? h with
  | none => rfl
  | some a =>
    simp only [Option.map_some, Ann.depart_onAir, Ann.depart_audience, Ann.depart_channel]
    split
    · cases a.channel <;> rfl
    · rfl

/-! ### What the Resolver reads -/

/-- The desired presentation is a function of the inputs of 02 R40. -/
theorem State.resolve_congr {s t : State} {p : Port} (hslot : t.slots[p] = s.slots[p])
    (hstate : t.ports[p].state = s.ports[p].state) (hhead : t.ports[p].headphones = s.ports[p].headphones)
    (hunit : t.ports[p].identity = s.ports[p].identity)
    (hcur : (t.roster.current p).map (fun x => (x.1.cls, x.2)) = (s.roster.current p).map fun x => (x.1.cls, x.2))
    (halert : t.alert.state = s.alert.state) (hquiet : t.quiet = s.quiet) (hpolicy : t.policy = s.policy)
    (hfeeds : t.feeds = s.feeds) (hcalls : t.calls = s.calls) : t.resolve p = s.resolve p := by
  have hceil : ∀ i, t.ceiling p i = s.ceiling p i := by
    intro i; unfold State.ceiling State.modeCeiling; rw [hquiet, hpolicy, hhead]
  have hfeed : ∀ c, t.programFeed c = s.programFeed c := by
    intro c; unfold State.programFeed; simp only [hfeeds]
  have hvideo : ∀ i, t.programVideo p i = s.programVideo p i := by
    intro i; unfold State.programVideo PortRec.hasScreen; rw [hunit]; simp only [hfeed]
  have haudio : ∀ i, t.programAudio i = s.programAudio i := by
    intro i; unfold State.programAudio; simp only [hfeed]
  have hcall : ∀ st, t.callIn p st = s.callIn p st := by
    intro st; unfold State.callIn State.callOf; rw [hcalls]
  have hlamp : ∀ i, t.lamp p i = s.lamp p i := by
    intro i; unfold State.lamp; simp only [halert, hcall]
  have hgain : ∀ b c d a, (c.map Ann.cls) = (d.map Ann.cls) → t.gain p b c a = s.gain p b d a := by
    intro b c d a h
    have : (c.any fun a => decide (a.cls = .safety)) = d.any fun a => decide (a.cls = .safety) := by
      cases c <;> cases d <;> simp_all
    unfold State.gain; simp only [halert, hpolicy, hceil, this]
  have hocc : ∀ b, t.occupied p b = s.occupied p b := by
    intro b
    unfold State.occupied
    cases ht : t.roster.current p with
    | none =>
      cases hs : s.roster.current p with
      | none => simp only [halert, hvideo, haudio, hlamp, hgain b none none _ rfl]
      | some y => simp [ht, hs] at hcur
    | some x =>
      cases hs : s.roster.current p with
      | none => simp [ht, hs] at hcur
      | some y =>
        obtain ⟨a, c⟩ := x
        obtain ⟨a', c'⟩ := y
        simp only [ht, hs, Option.map_some, Option.some.injEq, Prod.mk.injEq] at hcur
        obtain ⟨h1, h2⟩ := hcur
        subst h2
        simp only [halert, hvideo, hlamp, hgain b (some a) (some a') _ (by simp [h1])]
  unfold State.resolve
  rw [hslot, hstate]
  cases s.slots[p] <;> simp only [hocc]

/-- Changes outside the Resolver's inputs leave the desired presentation as it was. -/
theorem State.resolve_of_same {s t : State} (p : Port) (hslots : t.slots = s.slots) (hports : t.ports = s.ports)
    (hroster : t.roster = s.roster) (halert : t.alert.state = s.alert.state) (hquiet : t.quiet = s.quiet)
    (hpolicy : t.policy = s.policy) (hfeeds : t.feeds = s.feeds) (hcalls : t.calls = s.calls) :
    t.resolve p = s.resolve p := by
  apply State.resolve_congr <;> simp_all

/-! ### refresh -/

/-- A port record after the recomputation: its desired presentation alone is written. -/
theorem State.refresh_port (s : State) (p : Port) :
    s.refresh.ports[p] = { s.ports[p] with desired := s.resolve p } := by
  simp [State.refresh, State.resolved]

theorem State.refresh_roster (s : State) : s.refresh.roster = s.roster.depart s.refresh.ports := rfl

/-- A recomputation leaves every desired presentation at the value it computed. -/
@[simp] theorem State.resolve_refresh (s : State) (p : Port) : s.refresh.resolve p = s.resolve p := by
  refine State.resolve_congr (by rw [State.refresh_slots]) (by rw [State.refresh_port]) (by rw [State.refresh_port])
    (by rw [State.refresh_port]) ?_ (by rw [State.refresh_alert]) s.refresh_quiet s.refresh_policy s.refresh_feeds
    s.refresh_calls
  rw [State.refresh_roster, Roster.depart_current, Option.map_map]
  congr 1; funext x; exact congrArg₂ Prod.mk (Ann.depart_cls _ _) rfl

/-! ### ATTN -/

/-- ATTN is a function of the flags, the zones and the enables (12 R177). -/
theorem State.attnLevel_congr {s t : State} (hflags : ∀ p : Port, t.ports[p].flags = s.ports[p].flags)
    (hzone : ∀ p : Port, t.ports[p].zone = s.ports[p].zone) (hcoach : t.events.coach = s.events.coach)
    (hb : t.events.berthEnables = s.events.berthEnables) (hc : t.events.coachEnables = s.events.coachEnables)
    (hz : t.events.zoneEnables = s.events.zoneEnables) : t.attnLevel = s.attnLevel := by
  have hport : ∀ p, t.portPending p = s.portPending p := by intro p; unfold State.portPending; rw [hflags, hb]
  have hzp : ∀ z, t.zonePending z = s.zonePending z := by intro z; unfold State.zonePending; simp only [hzone, hport]
  simp [State.attnLevel, State.coachPending, hzp, hcoach, hc, hz]

@[simp] theorem State.attnLevel_refresh (s : State) : s.refresh.attnLevel = s.attnLevel := by
  apply State.attnLevel_congr <;> simp only [State.refresh_port, State.refresh_events] <;> intros <;> trivial

@[simp] theorem State.attnLevel_judgeAttn (s : State) : s.judgeAttn.attnLevel = s.attnLevel := rfl

@[simp] theorem State.resolve_judgeAttn (s : State) (p : Port) : s.judgeAttn.resolve p = s.resolve p := rfl

@[simp] theorem State.resolve_respond (s : State) (c : Byte) (st : Status) (d : List (List Byte)) (p : Port) :
    (s.respond c st d).resolve p = s.resolve p := rfl

@[simp] theorem State.attnLevel_respond (s : State) (c : Byte) (st : Status) (d : List (List Byte)) :
    (s.respond c st d).attnLevel = s.attnLevel := rfl

/-! ### settle -/

theorem State.judgeAttn_events (s : State) : s.judgeAttn.events = { s.events with attn := s.attnLevel } := rfl

/-- What the end of an event leaves: desired presentations recomputed, departures made, ATTN judged, and nothing else. -/
theorem State.settle_settledFrom (u : State) : u.SettledFrom u.settle where
  ports p := by
    show u.refresh.judgeAttn.ports[p] = _
    rw [State.settle, State.resolve_judgeAttn, State.resolve_refresh, State.judgeAttn_ports, State.refresh_port]
  roster := rfl
  events := by
    show u.refresh.judgeAttn.events = _
    rw [State.judgeAttn_events, State.settle, State.attnLevel_judgeAttn, State.refresh_events]
  rest := rfl

/-- A response does not disturb a settled state. -/
theorem State.SettledFrom.respond {u t : State} (h : u.SettledFrom t) (c : Byte) (st : Status)
    (d : List (List Byte)) : u.SettledFrom (t.respond c st d) where
  ports := h.ports
  roster := h.roster
  events := h.events
  rest := by
    have e := congrArg (State.respond c st d) h.rest
    exact e

end Sys2Proof.Machine
end

