-- ==== Sys2Proof/Laws/Roster.lean ====
section
/-! SUPPORT. The Announcement Roster: what each operation does to the records, so that a property of records which the
moves of one record keep is kept by every operation (spec/03, spec/04). -/

namespace Sys2Proof.Machine

open Sys2Proof

/-! ### Reading a slot after a write -/

theorem Roster.rec_put (r : Roster) (h g : Handle) (a : Ann) :
    (r.put h a).rec? g = if g = h then some a else r.rec? g := by
  unfold Roster.put Roster.rec?
  simp only [Fin.getElem_fin, Vector.getElem_set, Fin.ext_iff, eq_comm]

theorem Roster.rec_free (r : Roster) (h g : Handle) : (r.free h).rec? g = if g = h then none else r.rec? g := by
  unfold Roster.free Roster.rec?
  simp only [Fin.getElem_fin, Vector.getElem_set, Fin.ext_iff, eq_comm]

@[simp] theorem Roster.order_put (r : Roster) (h : Handle) (a : Ann) : (r.put h a).order = r.order := rfl

@[simp] theorem Roster.counter_put (r : Roster) (h : Handle) (a : Ann) : (r.put h a).counter = r.counter := rfl

theorem Roster.test_eq_true {r : Roster} {f : Ann → Bool} {h : Handle} :
    r.test f h = true ↔ ∃ a, r.rec? h = some a ∧ f a = true := by
  unfold Roster.test; cases r.rec? h <;> simp

/-- What `update` leaves in each slot. -/
theorem Desk.update_rec (d : Desk) (h g : Handle) (f : Ann → Ann) :
    (d.update h f).roster.rec? g = if g = h then (d.roster.rec? h).map f else d.roster.rec? g := by
  unfold Desk.update
  cases hr : d.roster.rec? h with
  | none => by_cases hg : g = h <;> simp_all
  | some a => simp [Roster.rec_put]

@[simp] theorem Desk.update_order (d : Desk) (h : Handle) (f : Ann → Ann) :
    (d.update h f).roster.order = d.roster.order := by
  unfold Desk.update; split <;> rfl

@[simp] theorem Desk.update_counter (d : Desk) (h : Handle) (f : Ann → Ann) :
    (d.update h f).roster.counter = d.roster.counter := by
  unfold Desk.update; split <;> rfl

@[simp] theorem Desk.update_coach (d : Desk) (h : Handle) (f : Ann → Ann) : (d.update h f).coach = d.coach := by
  unfold Desk.update; split <;> rfl

@[simp] theorem Desk.flag_roster (d : Desk) (k : CoachKind) : (d.flag k).roster = d.roster := rfl

/-! ### The order of rank -/

theorem Roster.mem_ranked {r : Roster} {h : Handle} :
    h ∈ r.ranked ↔ h ∈ r.order ∧ (r.rec? h).isSome = true := by
  unfold Roster.ranked
  simp only [List.mem_flatMap, List.mem_filter]
  constructor
  · rintro ⟨c, -, ho, ht⟩
    obtain ⟨a, ha, -⟩ := Roster.test_eq_true.1 ht
    exact ⟨ho, by simp [ha]⟩
  · rintro ⟨ho, hs⟩
    obtain ⟨a, ha⟩ := Option.isSome_iff_exists.1 hs
    refine ⟨a.cls, ?_, ho, Roster.test_eq_true.2 ⟨a, ha, by simp⟩⟩
    cases a.cls <;> simp [AnnClass.byRank]

theorem Roster.mem_waitList {r : Roster} {h : Handle} :
    h ∈ r.waitList ↔ h ∈ r.order ∧ ∃ a, r.rec? h = some a ∧ a.waits = true := by
  unfold Roster.waitList
  simp only [List.mem_filter, Roster.mem_ranked, Roster.test_eq_true]
  constructor
  · rintro ⟨⟨ho, -⟩, ha⟩; exact ⟨ho, ha⟩
  · rintro ⟨ho, a, ha, hw⟩; exact ⟨⟨ho, by simp [ha]⟩, a, ha, hw⟩

theorem Ann.not_onAir_of_waits {a : Ann} (h : a.waits = true) : a.onAir = false := by
  unfold Ann.waits at h; unfold Ann.onAir
  cases hs : a.state <;> simp_all

/-! ### Free channels and sources -/

/-- A FREE channel is held by no record. -/
theorem Roster.free_channel {r : Roster} {c : Channel} (h : r.freeChannel = some c) {g : Handle} {a : Ann}
    (ha : r.rec? g = some a) (hair : a.onAir = true) : a.channel ≠ some c := by
  unfold Roster.freeChannel at h
  have := List.find?_some h
  simp only [Roster.channelHolder, Option.isNone_iff_eq_none, List.find?_eq_none] at this
  intro hc
  exact this g (List.mem_finRange g) (Roster.test_eq_true.2 ⟨a, ha, by simp [hair, hc]⟩)

/-- A FREE exclusive source is held by no record. -/
theorem Roster.free_source {r : Roster} {src : Source} (h : r.sourceFree src = true) (hx : src.exclusive = true)
    {g : Handle} {a : Ann} (ha : r.rec? g = some a) (hair : a.onAir = true) : a.source ≠ src := by
  unfold Roster.sourceFree at h
  simp only [hx, Bool.not_true, Bool.false_or, Option.isNone_iff_eq_none, Roster.sourceHolder,
    List.find?_eq_none] at h
  intro hc
  exact h g (List.mem_finRange g) (Roster.test_eq_true.2 ⟨a, ha, by simp [hair, hc]⟩)

/-- A source no record on the air holds is FREE. -/
theorem Roster.source_free_of {r : Roster} {src : Source}
    (h : ∀ g a, r.rec? g = some a → a.onAir = true → a.source ≠ src) : r.sourceFree src = true := by
  unfold Roster.sourceFree
  simp only [Bool.or_eq_true, Option.isNone_iff_eq_none, Roster.sourceHolder, List.find?_eq_none]
  right
  intro g _ ht
  obtain ⟨a, ha, hp⟩ := Roster.test_eq_true.1 ht
  simp only [Bool.and_eq_true, decide_eq_true_eq] at hp
  exact h g a ha hp.1 hp.2

/-- The victim of R60 is on the air. -/
theorem Roster.victim_onAir {r : Roster} {h v : Handle} (hv : r.victim h = some v) :
    ∃ a, r.rec? v = some a ∧ a.onAir = true := by
  unfold Roster.victim at hv
  split at hv
  · cases hv
  · rename_i a _
    rw [Option.filter_eq_some_iff] at hv
    obtain ⟨hv, -⟩ := hv
    split at hv
    · unfold Roster.lowestOnAir at hv
      have := List.mem_of_getLast? hv
      exact Roster.test_eq_true.1 (List.mem_filter.1 this).2
    · unfold Roster.sourceHolder at hv
      obtain ⟨b, hb, hp⟩ := Roster.test_eq_true.1 (List.find?_some hv)
      simp only [Bool.and_eq_true] at hp
      exact ⟨b, hb, hp.1⟩

/-- The victim of R60 ranks below the record that joins. -/
theorem Roster.victim_ranksBelow {r : Roster} {h v : Handle} (hv : r.victim h = some v) :
    r.ranksBelow h v = true := by
  unfold Roster.victim at hv
  split at hv
  · cases hv
  · exact ((Option.filter_eq_some_iff).1 hv).2

/-! ### Properties that every move of a record keeps -/

/-- A property of every record present. -/
def Roster.All (P : Ann → Prop) (r : Roster) : Prop := ∀ h a, r.rec? h = some a → P a

/-- A property kept by every move of one record, each in the states it is made from. -/
structure Ann.Closed (P : Ann → Prop) : Prop where
  grant : ∀ env c a, a.waits = true → P a → P (Ann.startLeadIn env c a)
  hold : ∀ a, a.onAir = true → P a → P a.hold
  finish : ∀ o a, P a → P (Ann.finish o a)
  reach : ∀ a, P a → P a.reach
  toGap : ∀ a, a.onAir = true → P a → P a.toGap
  unjoin : ∀ a, P a → P a.unjoin
  withdraw : ∀ p a, P a → P (Ann.withdraw p a)
  startPlayout : ∀ v a, a.state = .leadIn → P a → P (Ann.startPlayout v a)
  requeue : ∀ a, a.state = .gap → P a → P a.requeue
  depart : ∀ v a, P a → P (Ann.depart v a)
  rearm : ∀ ps n a, P a → P (Ann.rearm ps n a)

section All

variable {P : Ann → Prop}

theorem Roster.All.put {r : Roster} (hr : r.All P) {a : Ann} (ha : P a) (h : Handle) : (r.put h a).All P := by
  intro g b hb
  rw [Roster.rec_put] at hb
  split at hb
  · cases hb; exact ha
  · exact hr g b hb

theorem Roster.All.free {r : Roster} (hr : r.All P) (h : Handle) : (r.free h).All P := by
  intro g b hb
  rw [Roster.rec_free] at hb
  split at hb
  · cases hb
  · exact hr g b hb

theorem Roster.All.depart (hP : Ann.Closed P) {r : Roster} (hr : r.All P) (v : Vector PortRec 40) :
    (r.depart v).All P := by
  intro g b hb
  rw [Roster.depart_rec] at hb
  obtain ⟨a, ha, rfl⟩ := Option.map_eq_some_iff.1 hb
  exact hP.depart v a (hr g a ha)

theorem Desk.update_all {d : Desk} (hd : d.roster.All P) {h : Handle} {f : Ann → Ann}
    (hf : ∀ a, d.roster.rec? h = some a → P (f a)) : (d.update h f).roster.All P := by
  intro g b hb
  rw [Desk.update_rec] at hb
  split at hb
  · obtain ⟨a, ha, rfl⟩ := Option.map_eq_some_iff.1 hb
    exact hf a ha
  · exact hd g b hb

theorem Desk.grant_all (hP : Ann.Closed P) (env : State) {h : Handle} {d : Desk} (hd : d.roster.All P)
    (hw : ∀ a, d.roster.rec? h = some a → a.waits = true) : (d.grant env h).roster.All P := by
  unfold Desk.grant
  split
  · rename_i a c ha _
    have key : (d.roster.put h (a.startLeadIn env c)).All P := hd.put (hP.grant env c a (hw a ha) (hd h a ha)) h
    dsimp only
    split <;> exact key
  · exact hd

theorem Desk.offer_all (hP : Ann.Closed P) (env : State) {d : Desk} (hd : d.roster.All P) (h : Handle) :
    (d.offer env h).roster.All P := by
  unfold Desk.offer
  split
  · rename_i hc
    simp only [Bool.and_eq_true, Roster.grantable, Roster.test_eq_true] at hc
    obtain ⟨⟨a, ha, hw⟩, -⟩ := hc
    refine Desk.grant_all hP env hd ?_
    intro b hb
    rw [ha] at hb; cases hb; exact hw.1
  · exact hd

theorem Desk.scan_all (hP : Ann.Closed P) (env : State) {d : Desk} (hd : d.roster.All P) :
    (d.scan env).roster.All P := by
  unfold Desk.scan
  generalize d.roster.waitList = l
  induction l generalizing d with
  | nil => exact hd
  | cons h l ih => exact ih (Desk.offer_all hP env hd h)

theorem Ann.hold_waits (a : Ann) : a.hold.waits = true := by simp [Ann.hold, Ann.waits]

theorem Desk.join_all (hP : Ann.Closed P) (env : State) {d : Desk} (hd : d.roster.All P) (h : Handle) :
    (d.join env h).roster.All P := by
  unfold Desk.join
  have h1 := Desk.scan_all hP env hd
  generalize d.scan env = d1 at h1
  dsimp only
  split
  · rename_i hw
    split
    · rename_i v hv
      obtain ⟨b, hb, hair⟩ := Roster.victim_onAir hv
      refine Desk.scan_all hP env (Desk.grant_all hP env (Desk.update_all h1 ?_) ?_)
      · intro a ha; rw [hb] at ha; cases ha; exact hP.hold b hair (h1 v b hb)
      · intro a ha
        rw [Desk.update_rec] at ha
        split at ha
        · obtain ⟨c, -, rfl⟩ := Option.map_eq_some_iff.1 ha; exact Ann.hold_waits c
        · obtain ⟨c, hc, hcw⟩ := Roster.test_eq_true.1 hw
          rw [hc] at ha; cases ha; exact hcw
    · exact h1
  · exact h1

theorem Desk.finish_all (hP : Ann.Closed P) {d : Desk} (hd : d.roster.All P) (o : AnnOutcome) (h : Handle) :
    (d.finish o h).roster.All P := by
  unfold Desk.finish
  split
  · rw [Desk.flag_roster]
    exact Desk.update_all hd fun a ha => hP.finish o a (hd h a ha)
  · exact hd

theorem Ann.reach_state (a : Ann) : a.reach.state = a.state := rfl

theorem Ann.reach_onAir (a : Ann) : a.reach.onAir = a.onAir := rfl

/-- The accounting of R76, on a record that is on the air. -/
theorem Desk.account_all (hP : Ann.Closed P) {d : Desk} (hd : d.roster.All P) {h : Handle}
    (hair : ∀ a, d.roster.rec? h = some a → a.onAir = true) : (d.account h).roster.All P := by
  unfold Desk.account
  split
  · exact hd
  · rename_i a ha
    have hb := hP.reach a (hd h a ha)
    have hput := hd.put hb h
    dsimp only
    split
    · exact Desk.finish_all hP hput _ _
    · split
      · exact hd.put (hP.toGap a.reach (by rw [Ann.reach_onAir]; exact hair a ha) hb) h
      · exact Desk.finish_all hP hput _ _

theorem Desk.endRepetition_all (hP : Ann.Closed P) (env : State) {d : Desk} (hd : d.roster.All P) {h : Handle}
    (hair : ∀ a, d.roster.rec? h = some a → a.onAir = true) : (d.endRepetition env h).roster.All P :=
  Desk.scan_all hP env (Desk.account_all hP hd hair)

theorem Roster.playingFrom_state {r : Roster} {src : Source} {h : Handle} (hp : r.playingFrom src = some h) :
    ∃ a, r.rec? h = some a ∧ a.state = .playing ∧ a.source = src := by
  obtain ⟨a, ha, ht⟩ := Roster.test_eq_true.1 (List.find?_some hp)
  simp only [Bool.and_eq_true, decide_eq_true_eq] at ht
  exact ⟨a, ha, ht⟩

theorem Ann.onAir_of_playing {a : Ann} (h : a.state = .playing) : a.onAir = true := by simp [Ann.onAir, h]

theorem Ann.onAir_of_leadIn {a : Ann} (h : a.state = .leadIn) : a.onAir = true := by simp [Ann.onAir, h]

theorem Desk.endPlayoutFrom_all (hP : Ann.Closed P) (env : State) (src : Source) (reach : Bool) {d : Desk}
    (hd : d.roster.All P) : (d.endPlayoutFrom env src reach).roster.All P := by
  unfold Desk.endPlayoutFrom
  split
  · exact hd
  · rename_i h hp
    obtain ⟨a, ha, hs, -⟩ := Roster.playingFrom_state hp
    cases reach with
    | true =>
      refine Desk.endRepetition_all hP env hd ?_
      intro b hb; rw [ha] at hb; cases hb; exact Ann.onAir_of_playing hs
    | false =>
      refine Desk.endRepetition_all hP env (Desk.update_all hd fun b hb => hP.unjoin b (hd h b hb)) ?_
      intro b hb
      simp only [Desk.update_rec, if_true, ha, Option.map_some, Option.some.injEq] at hb
      subst hb
      exact Ann.onAir_of_playing hs

theorem Desk.retireFrom_all (hP : Ann.Closed P) (p : Port) {d : Desk} (hd : d.roster.All P) (h : Handle) :
    (d.retireFrom p h).roster.All P := by
  unfold Desk.retireFrom
  split
  · exact hd
  · rename_i a ha
    have hw := hP.withdraw p a (hd h a ha)
    have hput := hd.put hw h
    dsimp only
    split
    all_goals first | exact hput | (split <;> first | exact Desk.finish_all hP hput _ _ | exact hput | skip)
    · refine Desk.account_all hP hput ?_
      intro b hb
      rename_i hs _
      simp only [Roster.rec_put, if_true, Option.some.injEq] at hb
      subst hb
      exact Ann.onAir_of_playing (by simpa [Ann.withdraw] using hs)

theorem Desk.retire_all (hP : Ann.Closed P) (env : State) (p : Port) {d : Desk} (hd : d.roster.All P) :
    (d.retire env p).roster.All P := by
  unfold Desk.retire
  refine Desk.scan_all hP env ?_
  generalize allHandles = l
  induction l generalizing d with
  | nil => exact hd
  | cons h l ih => exact ih (Desk.retireFrom_all hP p hd h)

/-- An admission: the new record satisfies the property whatever its number, and the join keeps it. -/
theorem Desk.enroll_all (hP : Ann.Closed P) (env : State) (h : Handle) {a : Ann} {d : Desk} (hd : d.roster.All P)
    (ha : ∀ n, P { a with number := n }) : (d.enroll env h a).roster.All P := by
  unfold Desk.enroll
  have hput : (d.roster.enroll h a).All P := by
    unfold Roster.enroll
    intro g b hb
    have := (hd.free h).put (ha ((d.roster.free h).nextNumber 16 (d.roster.free h).counter)) h
    exact this g b hb
  dsimp only
  split
  · exact Desk.finish_all hP hput _ _
  · exact Desk.join_all hP env hput _

theorem Desk.alertEntry_all (hP : Ann.Closed P) (env : State) {d : Desk} (hd : d.roster.All P)
    (ha : ∀ n, P { (alertAnn env.alert.config).asAdmitted env.openPorts with number := n }) :
    (d.alertEntry env).roster.All P := by
  unfold Desk.alertEntry
  split
  · exact Desk.update_all hd fun a h => hP.rearm _ _ a (hd _ a h)
  · exact Desk.enroll_all hP env _ hd ha

end All

/-! ### The balance of R83 -/

theorem List.length_filter_add_diff {α : Type} (f : α → Bool) (l : List α) :
    (l.filter f).length + (l.length - (l.filter f).length) = l.length := by
  have := List.length_filter_le f l
  omega

/-- Every move of a record keeps its balance (04 R83). -/
theorem Ann.balanced_closed : Ann.Closed Ann.Balanced where
  grant env c a _ h := by
    have := List.length_filter_le (env.eligible a) a.owed
    simp only [Ann.Balanced, Ann.startLeadIn] at h ⊢; omega
  hold a _ h := h
  finish o a h := h
  reach a h := by
    have := List.length_filter_le (fun p => !a.joined.contains p) a.owed
    simp only [Ann.Balanced, Ann.reach] at h ⊢; omega
  toGap a _ h := h
  unjoin a h := h
  withdraw p a h := by
    simp only [Ann.Balanced, Ann.withdraw] at h ⊢
    by_cases hp : p ∈ a.owed
    · have := List.length_erase_of_mem hp
      have := List.length_pos_of_mem hp
      simp only [List.contains_iff_mem, hp, if_true]; omega
    · have := List.erase_of_not_mem hp
      simp only [List.contains_iff_mem, hp, if_false, this]; omega
  startPlayout v a _ h := h
  requeue a _ h := h
  depart v a h := by unfold Ann.depart; split <;> exact h
  rearm ps n a h := by simp [Ann.Balanced, Ann.rearm]

theorem Ann.balanced_asAdmitted (owed : PortSet) (a : Ann) (n : Count32) :
    Ann.Balanced { a.asAdmitted owed with number := n } := by simp [Ann.Balanced, Ann.asAdmitted]

/-! ### What a record's state says of its fields (03 R49, R54) -/

theorem Ann.shaped_asAdmitted (owed : PortSet) (a : Ann) (n : Count32) :
    Ann.Shaped { a.asAdmitted owed with number := n } := by
  constructor <;> simp [Ann.asAdmitted, Ann.onAir]

/-- Every move of a record keeps its shape. -/
theorem Ann.shaped_closed : Ann.Closed Ann.Shaped where
  grant env c a hw h := by
    have hdone : a.state ≠ .done := by intro hs; simp [Ann.waits, hs] at hw
    have ho : a.outcome = none := by
      have := h.outcome; cases hc : a.outcome <;> simp_all
    constructor <;> simp [Ann.startLeadIn, Ann.onAir, ho]
  hold a ha h := by
    have hdone : a.state ≠ .done := by intro hs; simp [Ann.onAir, hs] at ha
    have ho : a.outcome = none := by
      have := h.outcome; cases hc : a.outcome <;> simp_all
    constructor <;> simp [Ann.hold, Ann.onAir, ho]
  finish o a h := by constructor <;> simp [Ann.finish, Ann.onAir]
  reach a h := ⟨h.channel, h.audience, h.joined, h.outcome⟩
  toGap a ha h := by
    have hdone : a.state ≠ .done := by intro hs; simp [Ann.onAir, hs] at ha
    have ho : a.outcome = none := by
      have := h.outcome; cases hc : a.outcome <;> simp_all
    constructor <;> simp [Ann.toGap, Ann.onAir, ho]
  unjoin a h := ⟨h.channel, h.audience, Or.inl rfl, h.outcome⟩
  withdraw p a h := by
    refine ⟨h.channel, ?_, ?_, h.outcome⟩
    · rcases h.audience with he | he
      · left; simp [Ann.withdraw, he]
      · right; exact he
    · rcases h.joined with he | he
      · left; simp [Ann.withdraw, he]
      · right; exact he
  startPlayout v a hs h := by
    have hc := h.channel
    have ho := h.outcome
    constructor
    · simpa [Ann.startPlayout, Ann.onAir, hs] using hc
    · right; simp [Ann.startPlayout, Ann.onAir]
    · right; rfl
    · simpa [Ann.startPlayout, hs] using ho
  requeue a hs h := by
    have hc := h.channel
    have ho := h.outcome
    have ha := h.audience
    have hj := h.joined
    constructor <;> simp_all [Ann.requeue, Ann.onAir]
  depart v a h := by
    unfold Ann.depart
    split
    · rename_i hs
      exact ⟨h.channel, h.audience, Or.inr hs, h.outcome⟩
    · exact h
  rearm ps n a h := ⟨h.channel, h.audience, h.joined, h.outcome⟩

end Sys2Proof.Machine
end

