-- ==== Sys2Proof/Laws/Allocator.lean ====
section
/-! SUPPORT. The Channel Allocator: FREE channels and sources, the wait list in rank order, the scan as offers one after
another, and the join (spec/03 R56 to R61). -/

namespace Sys2Proof.Machine

open Sys2Proof

/-! ### FREE channels and sources -/

theorem Roster.channelHolder_none {r : Roster} {c : Channel} :
    r.channelHolder c = none ↔ ∀ g : Handle, ∀ b ∈ r.rec? g, b.onAir = true → b.channel ≠ some c := by
  unfold Roster.channelHolder
  simp only [List.find?_eq_none, Roster.test_eq_true, Bool.and_eq_true, decide_eq_true_eq, not_exists, not_and]
  exact ⟨fun h g b hb ha => h g (List.mem_finRange g) b hb ha, fun h g _ b hb ha => h g b hb ha⟩

/-- What `freeChannel` gives is the lowest-numbered FREE channel. -/
theorem Roster.freeChannel_eq_some {r : Roster} {c : Channel} : r.freeChannel = some c ↔ r.LowestFree c := by
  unfold Roster.freeChannel Roster.LowestFree
  rw [List.find?_eq_some_iff_getElem]
  simp only [Option.isNone_iff_eq_none, Roster.channelHolder_none, List.getElem_finRange, List.length_finRange,
    Bool.not_eq_true', Option.isNone_eq_false_iff]
  refine and_congr_right fun _ => ?_
  constructor
  · rintro ⟨i, hi, hic, hlt⟩ k hk
    have hk' : k.val < i := by
      have := congrArg Fin.val hic
      have := Fin.lt_def.1 hk
      simp at *; omega
    have := hlt k.val hk'
    have e : (Fin.cast (List.length_finRange) ⟨k.val, by simp⟩ : Channel) = k := by ext; simp
    rw [← Option.ne_none_iff_isSome] at this
    simp only [ne_eq, Roster.channelHolder_none, not_forall, not_not] at this
    obtain ⟨g, b, hb, ha, hc⟩ := this
    exact ⟨g, b, hb, ha, by simpa using hc⟩
  · intro h
    refine ⟨c.val, c.isLt, by ext; simp, fun j hj => ?_⟩
    rw [← Option.ne_none_iff_isSome]
    simp only [ne_eq, Roster.channelHolder_none, not_forall, not_not]
    obtain ⟨g, b, hb, ha, hc⟩ := h ⟨j, by omega⟩ hj
    exact ⟨g, b, hb, ha, by simpa using hc⟩

theorem Roster.freeChannel_isSome {r : Roster} : r.freeChannel.isSome = true ↔ ∃ c, r.LowestFree c := by
  simp only [Option.isSome_iff_exists, Roster.freeChannel_eq_some]

/-- A channel that no record on the air holds is FREE, so there is a lowest one. -/
theorem Roster.lowestFree_of {r : Roster} {k : Channel}
    (h : ∀ g : Handle, ∀ b ∈ r.rec? g, b.onAir = true → b.channel ≠ some k) : ∃ c, r.LowestFree c := by
  rw [← Roster.freeChannel_isSome]
  unfold Roster.freeChannel
  rw [List.find?_isSome]
  exact ⟨k, List.mem_finRange k, by rw [Roster.channelHolder_none.2 h]; rfl⟩

theorem Roster.sourceFree_iff {r : Roster} {src : Source} : r.sourceFree src = true ↔ r.SourceFree src := by
  constructor
  · intro h hx g b hb ha
    exact Roster.free_source h hx hb ha
  · intro h
    by_cases hx : src.exclusive = true
    · exact Roster.source_free_of fun g b hb ha => h hx g b hb ha
    · unfold Roster.sourceFree; simp [hx]

/-! ### One offer -/

theorem Desk.grant_granted (env : State) {d : Desk} {h : Handle} {a : Ann} {c : Channel} (ha : d.roster.rec? h = some a)
    (hc : d.roster.freeChannel = some c) : d.Granted env h (d.grant env h) := by
  refine ⟨a, c, ha, Roster.freeChannel_eq_some.1 hc, ?_⟩
  unfold Desk.grant
  simp only [ha, hc]
  have hf : a.source.isFeed = true ↔ a.source = .n0 ∨ a.source = .n1 := by cases a.source <;> simp [Source.isFeed]
  simp only [Bool.and_eq_true, hf]
  split <;> exact ⟨rfl, rfl⟩

/-- A grant has one outcome. -/
theorem Desk.Granted.unique {env : State} {h : Handle} {d e f : Desk} (he : d.Granted env h e) (hf : d.Granted env h f) :
    e = f := by
  obtain ⟨a, c, ha, hc, h1, h2⟩ := he
  obtain ⟨b, k, hb, hk, h3, h4⟩ := hf
  rw [ha] at hb; cases hb
  rw [← Roster.freeChannel_eq_some] at hc hk
  rw [hc] at hk; cases hk
  cases e; cases f
  simp only at h1 h2 h3 h4
  rw [h1, h2, h3, h4]

theorem Desk.offer_eq_self {env : State} {d : Desk} {h : Handle}
    (hn : ¬((∃ c, d.roster.LowestFree c) ∧ ∃ a ∈ d.roster.rec? h, a.waits = true ∧ d.roster.SourceFree a.source)) :
    d.offer env h = d := by
  unfold Desk.offer
  rw [if_neg]
  simp only [Bool.and_eq_true, Roster.grantable, Roster.test_eq_true, Roster.freeChannel_isSome, Roster.sourceFree_iff]
  rintro ⟨⟨a, ha, hw⟩, hc⟩
  exact hn ⟨hc, a, ha, hw⟩

/-- An offer grants the record exactly if it waits, a channel is FREE and its source is FREE or a TONE. -/
theorem Desk.offer_offered (env : State) (d : Desk) (h : Handle) : d.Offered env h (d.offer env h) := by
  refine ⟨?_, Desk.offer_eq_self⟩
  rintro ⟨hc, a, ha, hw, hs⟩
  obtain ⟨c, hc⟩ := Option.isSome_iff_exists.1 (Roster.freeChannel_isSome.2 hc)
  have e : d.offer env h = d.grant env h := by
    unfold Desk.offer
    rw [if_pos]
    simp only [Bool.and_eq_true, Roster.grantable, Roster.test_eq_true, Roster.sourceFree_iff]
    exact ⟨⟨a, ha, hw, hs⟩, by simp [hc]⟩
  rw [e]
  exact Desk.grant_granted env ha hc

/-- The scan offers the records of the wait list one after another. -/
theorem Desk.scan_serves (env : State) (d : Desk) : Desk.Serves env d.roster.waitList d (d.scan env) := by
  unfold Desk.scan
  generalize d.roster.waitList = l
  induction l generalizing d with
  | nil => rfl
  | cons h l ih => exact ⟨_, Desk.offer_offered env d h, ih _⟩

/-- A scan that can grant no record leaves the desk as it is. -/
theorem Desk.scan_eq_self {env : State} {d : Desk} (hs : d.roster.Served) : d.scan env = d := by
  unfold Desk.scan
  generalize d.roster.waitList = l
  induction l with
  | nil => rfl
  | cons h l ih =>
    rw [List.foldl_cons, Desk.offer_eq_self, ih]
    rintro ⟨hc, a, ha, hw, hf⟩
    exact hs hc h a ha hw hf

/-! ### What a grant leaves FREE -/

theorem Desk.Granted.rec {env : State} {h : Handle} {d e : Desk} (hg : d.Granted env h e) :
    ∃ a c, d.roster.rec? h = some a ∧ d.roster.LowestFree c ∧
      ∀ g, e.roster.rec? g = if g = h then some (a.startLeadIn env c) else d.roster.rec? g := by
  obtain ⟨a, c, ha, hc, hr, -⟩ := hg
  refine ⟨a, c, ha, hc, fun g => ?_⟩
  rw [hr]
  exact Roster.rec_put d.roster h g (a.startLeadIn env c)

/-- No channel becomes FREE and no source is given up by a grant to a record off the air. -/
theorem Desk.Granted.resources {env : State} {h : Handle} {d e : Desk} (hg : d.Granted env h e)
    (hoff : ∀ a, d.roster.rec? h = some a → a.onAir = false) :
    ((∃ c, e.roster.LowestFree c) → ∃ c, d.roster.LowestFree c) ∧
      ∀ src, e.roster.SourceFree src → d.roster.SourceFree src := by
  obtain ⟨a, c, ha, hc, hr⟩ := hg.rec
  have keep : ∀ g b, d.roster.rec? g = some b → b.onAir = true → e.roster.rec? g = some b := by
    intro g b hb hair
    rw [hr, if_neg]
    · exact hb
    · rintro rfl
      rw [hoff b hb] at hair; cases hair
  exact ⟨fun _ => ⟨c, hc⟩, fun src hs hx g b hb hair => hs hx g b (keep g b hb hair) hair⟩

/-- Offers take resources and give none up. -/
theorem Desk.offer_resources (env : State) (d : Desk) (h : Handle) :
    ((∃ c, (d.offer env h).roster.LowestFree c) → ∃ c, d.roster.LowestFree c) ∧
      ∀ src, (d.offer env h).roster.SourceFree src → d.roster.SourceFree src := by
  by_cases ok : (∃ c, d.roster.LowestFree c) ∧ ∃ a ∈ d.roster.rec? h, a.waits = true ∧ d.roster.SourceFree a.source
  · refine ((Desk.offer_offered env d h).1 ok).resources fun a ha => ?_
    obtain ⟨-, b, hb, hw, -⟩ := ok
    rw [Option.mem_def, ha] at hb; cases hb
    exact Ann.not_onAir_of_waits hw
  · rw [Desk.offer_eq_self ok]; exact ⟨id, fun _ => id⟩

theorem Desk.foldl_resources (env : State) (l : List Handle) (d : Desk) :
    ((∃ c, (l.foldl (Desk.offer env) d).roster.LowestFree c) → ∃ c, d.roster.LowestFree c) ∧
      ∀ src, (l.foldl (Desk.offer env) d).roster.SourceFree src → d.roster.SourceFree src := by
  induction l generalizing d with
  | nil => exact ⟨id, fun _ => id⟩
  | cons h l ih =>
    have h1 := Desk.offer_resources env d h
    have h2 := ih (d.offer env h)
    exact ⟨fun hc => h1.1 (h2.1 hc), fun src hs => h1.2 src (h2.2 src hs)⟩

/-- A record that waits after offers waited before them, and was the same. -/
theorem Desk.foldl_waits (env : State) (l : List Handle) {d : Desk} {g : Handle} {a : Ann}
    (ha : (l.foldl (Desk.offer env) d).roster.rec? g = some a) (hw : a.waits = true) : d.roster.rec? g = some a := by
  induction l generalizing d with
  | nil => exact ha
  | cons h l ih =>
    have key := ih ha
    by_cases ok : (∃ c, d.roster.LowestFree c) ∧ ∃ a ∈ d.roster.rec? h, a.waits = true ∧ d.roster.SourceFree a.source
    · obtain ⟨b, c, -, -, hr⟩ := ((Desk.offer_offered env d h).1 ok).rec
      rw [hr] at key
      split at key
      · cases key
        simp [Ann.startLeadIn, Ann.waits] at hw
      · exact key
    · rw [Desk.offer_eq_self ok] at key; exact key

/-- Of the other blocks the scan reads the Berth Table, the policy and the ports alone. -/
theorem Desk.scan_congr {env env' : State} (hslots : env.slots = env'.slots) (hpolicy : env.policy = env'.policy)
    (hports : env.ports = env'.ports) (d : Desk) : d.scan env = d.scan env' := by
  have hl : ∀ (a : Ann) (c : Channel), a.startLeadIn env c = a.startLeadIn env' c := by
    intro a c
    have he : env.eligible a = env'.eligible a := by
      funext q; unfold State.eligible State.image; rw [hslots, hpolicy]
    have ha : env.isActive = env'.isActive := by
      funext q; unfold State.isActive; rw [hports]
    unfold Ann.startLeadIn; rw [he, ha]
  have hg : ∀ (h : Handle) (d : Desk), Desk.grant env h d = Desk.grant env' h d := by
    intro h d; unfold Desk.grant; simp only [hl]
  unfold Desk.scan
  congr 1
  funext d h
  unfold Desk.offer; rw [hg]

/-- The scan leaves no record waiting that could be granted (R58). -/
theorem Desk.scan_served (env : State) {d : Desk} (ho : d.roster.Ordered) : (d.scan env).roster.Served := by
  intro hc h a ha hw hs
  have hd := Desk.foldl_waits env d.roster.waitList ha hw
  have hmem : h ∈ d.roster.waitList := Roster.mem_waitList.2 ⟨(ho.2 h).2 (by simp [hd]), a, hd, hw⟩
  obtain ⟨l, m, hl⟩ := List.append_of_mem hmem
  unfold Desk.scan at ha hc hs
  rw [hl, List.foldl_append, List.foldl_cons] at ha hc hs
  have hr := Desk.foldl_resources env m ((l.foldl (Desk.offer env) d).offer env h)
  have hc1 := hr.1 hc
  have hs1 := hr.2 _ hs
  have ha1 := Desk.foldl_waits env m ha hw
  have ho1 := Desk.offer_resources env (l.foldl (Desk.offer env) d) h
  generalize l.foldl (Desk.offer env) d = e at *
  by_cases ok : (∃ c, e.roster.LowestFree c) ∧ ∃ a ∈ e.roster.rec? h, a.waits = true ∧ e.roster.SourceFree a.source
  · obtain ⟨b, c, -, -, hg⟩ := ((Desk.offer_offered env e h).1 ok).rec
    rw [hg, if_pos rfl] at ha1
    cases ha1
    simp [Ann.startLeadIn, Ann.waits] at hw
  · have e1 := Desk.offer_eq_self (env := env) ok
    rw [e1] at ha1
    exact ok ⟨ho1.1 hc1, a, ha1, hw, ho1.2 _ hs1⟩

/-! ### The wait list in rank order -/

theorem Roster.waitList_ranked {r : Roster} (ho : r.Ordered) : r.waitList.Pairwise r.Outranks := by
  unfold Roster.waitList Roster.ranked
  refine List.Pairwise.filter _ ?_
  have horder : r.order.Pairwise fun g h => r.order.idxOf g < r.order.idxOf h := by
    rw [List.pairwise_iff_getElem]
    intro i j hi hj hij
    rw [ho.1.idxOf_getElem, ho.1.idxOf_getElem]; exact hij
  rw [List.pairwise_flatMap]
  constructor
  · intro c _
    refine (List.Pairwise.filter _ horder).imp_of_mem ?_
    intro g h hg hh hlt
    obtain ⟨a, ha, hca⟩ := Roster.test_eq_true.1 (List.mem_filter.1 hg).2
    obtain ⟨b, hb, hcb⟩ := Roster.test_eq_true.1 (List.mem_filter.1 hh).2
    simp only [decide_eq_true_eq] at hca hcb
    exact ⟨a, b, ha, hb, .inr ⟨hca.trans hcb.symm, hlt⟩⟩
  · have hcls : AnnClass.byRank.Pairwise fun c k => c.code < k.code := by decide
    refine hcls.imp fun hck => ?_
    intro g hg h hh
    obtain ⟨a, ha, hca⟩ := Roster.test_eq_true.1 (List.mem_filter.1 hg).2
    obtain ⟨b, hb, hcb⟩ := Roster.test_eq_true.1 (List.mem_filter.1 hh).2
    simp only [decide_eq_true_eq] at hca hcb
    exact ⟨a, b, ha, hb, .inl (by rw [hca, hcb]; exact hck)⟩

/-! ### The join -/

theorem Desk.preempt_rec (d : Desk) (v g : Handle) (b : Ann) :
    (d.preempt v b).roster.rec? g = if g = v then some b.hold else d.roster.rec? g :=
  Roster.rec_put d.roster v g b.hold

theorem Desk.update_hold_eq {d : Desk} {v : Handle} {b : Ann} (hb : d.roster.rec? v = some b) :
    d.update v Ann.hold = d.preempt v b := by
  unfold Desk.update; simp only [hb]; rfl

/-- Where no other record could be granted, a join grants slot `h`, or preempts its victim for it, or leaves it QUEUED; and
the scans around it grant nothing else (R58, R60, R61). -/
theorem Desk.join_joined (env : State) {d : Desk} {h : Handle} {a : Ann}
    (hshape : ∀ g : Handle, ∀ b ∈ d.roster.rec? g, b.Shaped) (hexcl : d.roster.Exclusive) (hord : d.roster.Ordered)
    (ha : d.roster.rec? h = some a) (hw : a.waits = true)
    (hs : (∃ c, d.roster.LowestFree c) → ∀ g, g ≠ h → ∀ b ∈ d.roster.rec? g, b.waits = true → ¬d.roster.SourceFree b.source) :
    d.Joined env h a.source (d.join env h) := by
  have hoff := Ann.not_onAir_of_waits hw
  by_cases ok : (∃ c, d.roster.LowestFree c) ∧ d.roster.SourceFree a.source
  · -- granted by the scan
    refine ⟨fun _ => ?_, fun hn => absurd ok hn, fun hn => absurd ok hn⟩
    obtain ⟨c, hc⟩ := Option.isSome_iff_exists.1 (Roster.freeChannel_isSome.2 ok.1)
    have hg := Desk.grant_granted env ha hc
    have hoffer : d.offer env h = d.grant env h :=
      (((Desk.offer_offered env d h).1 ⟨ok.1, a, ha, hw, ok.2⟩).unique hg)
    obtain ⟨a', c', ha', hc', hr⟩ := hg.rec
    rw [ha] at ha'; cases ha'
    have hres := hg.resources fun b hb => by rw [ha] at hb; cases hb; exact hoff
    -- after the grant nothing waiting can be granted
    have hserved : (d.grant env h).roster.Served := by
      intro hc1 g b hb hbw hbs
      rw [Option.mem_def, hr] at hb
      split at hb
      · cases hb; simp [Ann.startLeadIn, Ann.waits] at hbw
      · rename_i hne
        exact hs (hres.1 hc1) g hne b hb hbw (hres.2 _ hbs)
    have hscan : d.scan env = d.grant env h := by
      unfold Desk.scan
      have hmem : h ∈ d.roster.waitList :=
        Roster.mem_waitList.2 ⟨(hord.2 h).2 (by simp [ha]), a, ha, hw⟩
      generalize d.roster.waitList = l at hmem
      have tail : ∀ l : List Handle, l.foldl (Desk.offer env) (d.grant env h) = d.grant env h := by
        intro l
        induction l with
        | nil => rfl
        | cons g l ih =>
          rw [List.foldl_cons, Desk.offer_eq_self, ih]
          rintro ⟨hc1, b, hb, hbw, hbs⟩
          exact hserved hc1 g b hb hbw hbs
      induction l with
      | nil => cases hmem
      | cons g l ih =>
        rw [List.foldl_cons]
        by_cases e : g = h
        · subst e; rw [hoffer]; exact tail l
        · rw [Desk.offer_eq_self]
          · exact ih ((List.mem_cons.1 hmem).resolve_left (Ne.symm e))
          · rintro ⟨hc1, b, hb, hbw, hbs⟩
            exact hs hc1 g e b hb hbw hbs
    have hjoin : d.join env h = d.grant env h := by
      unfold Desk.join
      dsimp only
      rw [hscan, if_neg]
      rw [Roster.test_eq_true]
      rintro ⟨b, hb, hbw⟩
      rw [hr, if_pos rfl] at hb
      cases hb; simp [Ann.startLeadIn, Ann.waits] at hbw
    rw [hjoin]; exact hg
  · have hserved : d.roster.Served := by
      intro hc g b hb hbw hbs
      by_cases e : g = h
      · subst e
        rw [Option.mem_def, ha] at hb; cases hb
        exact ok ⟨hc, hbs⟩
      · exact hs hc g e b hb hbw hbs
    have hjoin : d.join env h =
        (d.roster.victim h).elim d fun v => ((d.update v Ann.hold).grant env h).scan env := by
      unfold Desk.join
      dsimp only
      rw [Desk.scan_eq_self hserved, if_pos (Roster.test_eq_true.2 ⟨a, ha, hw⟩)]
      cases d.roster.victim h <;> rfl
    refine ⟨fun hk => absurd hk ok, fun _ hv => by rw [hjoin, hv]; rfl, fun _ v hv => ?_⟩
    obtain ⟨b, hb, hair⟩ := Roster.victim_onAir hv
    refine ⟨b, hb, hair, ?_⟩
    rw [hjoin, hv, Option.elim_some, Desk.update_hold_eq hb]
    have hne : h ≠ v := by rintro rfl; rw [ha] at hb; cases hb; rw [hoff] at hair; cases hair
    have hp : (d.preempt v b).roster.rec? h = some a := by rw [Desk.preempt_rec, if_neg hne]; exact ha
    -- the victim's channel is FREE
    have hch : b.channel.isSome = true := by rw [(hshape v b hb).channel]; exact hair
    obtain ⟨k, hk⟩ := Option.isSome_iff_exists.1 hch
    have hfree : ∃ c, (d.preempt v b).roster.LowestFree c := by
      refine Roster.lowestFree_of (k := k) ?_
      intro x y hy hya
      rw [Option.mem_def, Desk.preempt_rec] at hy
      split at hy
      · cases hy; simp [Ann.hold, Ann.onAir] at hya
      · rename_i hxv
        intro hyk
        exact hxv (hexcl x v y hy b hb hya hair (.inl (hyk.trans hk.symm)))
    obtain ⟨c, hc⟩ := Option.isSome_iff_exists.1 (Roster.freeChannel_isSome.2 hfree)
    have hg := Desk.grant_granted env hp hc
    rw [Desk.scan_eq_self]
    · exact hg
    -- nothing waiting can be granted after the preemption
    obtain ⟨a', c', ha', hc', hr⟩ := hg.rec
    rw [hp] at ha'; cases ha'
    have hr' : ∀ g, ((d.preempt v b).grant env h).roster.rec? g =
        if g = h then some (a.startLeadIn env c') else if g = v then some b.hold else d.roster.rec? g := by
      intro g; rw [hr]; split
      · rfl
      · rw [Desk.preempt_rec]
    intro hcf g e he hew hes
    -- a record waiting after, by which resource it is kept waiting
    have hold : ∀ src, ((d.preempt v b).grant env h).roster.SourceFree src → src ≠ b.source → d.roster.SourceFree src := by
      intro src hsf hsb hx x y hy hya hys
      by_cases hxv : x = v
      · rw [hxv, Option.mem_def, hb] at hy; cases hy; exact hsb hys.symm
      · have hxh : x ≠ h := by
          intro hxh
          rw [hxh, Option.mem_def, ha] at hy; cases hy; rw [hoff] at hya; cases hya
        refine hsf hx x y ?_ hya hys
        rw [Option.mem_def, hr', if_neg hxh, if_neg hxv]; exact hy
    have hgh : g ≠ h := by
      rintro rfl
      rw [Option.mem_def, hr', if_pos rfl] at he; cases he
      simp [Ann.startLeadIn, Ann.waits] at hew
    by_cases hfc : ∃ c, d.roster.LowestFree c
    · -- a channel was FREE: the victim held the source
      have hnsf : ¬d.roster.SourceFree a.source := fun h => ok ⟨hfc, h⟩
      have hbs : b.source = a.source := by
        unfold Roster.victim at hv
        simp only [ha] at hv
        rw [if_neg (by rw [Roster.sourceFree_iff]; exact hnsf), Option.filter_eq_some_iff] at hv
        obtain ⟨x, hx, hp⟩ := Roster.test_eq_true.1 (List.find?_some hv.1)
        rw [hb] at hx; cases hx
        simp only [Bool.and_eq_true, decide_eq_true_eq] at hp
        exact hp.2
      have hnotfree : ¬((d.preempt v b).grant env h).roster.SourceFree a.source := by
        have hex : a.source.exclusive = true := by
          by_contra hx
          exact hnsf fun h => absurd h hx
        intro hf
        exact hf hex h (a.startLeadIn env c') (by rw [Option.mem_def, hr', if_pos rfl]) rfl rfl
      by_cases hgs : e.source = b.source
      · rw [hgs, hbs] at hes; exact hnotfree hes
      · rw [Option.mem_def, hr', if_neg hgh] at he
        split at he
        · cases he; exact hgs rfl
        · exact hs hfc g hgh e he hew (hold _ hes hgs)
    · -- no channel was FREE: the victim's is taken
      obtain ⟨m, hm⟩ := hcf
      have hmk : m = k := by
        by_contra hmk
        refine hfc (Roster.lowestFree_of (k := m) ?_)
        intro x y hy hya hym
        by_cases hxv : x = v
        · rw [hxv, Option.mem_def, hb] at hy; cases hy
          rw [hk] at hym; exact hmk (Option.some.inj hym).symm
        · have hxh : x ≠ h := by
            intro hxh
            rw [hxh, Option.mem_def, ha] at hy; cases hy; rw [hoff] at hya; cases hya
          refine hm.1 x y ?_ hya hym
          rw [Option.mem_def, hr', if_neg hxh, if_neg hxv]; exact hy
      subst hmk
      have hcm : c' = m := by
        by_contra hcm
        refine hfc (Roster.lowestFree_of (k := c') ?_)
        intro x y hy hya hym
        by_cases hxv : x = v
        · rw [hxv, Option.mem_def, hb] at hy; cases hy
          rw [hk] at hym; exact hcm (Option.some.inj hym).symm
        · refine hc'.1 x y ?_ hya hym
          rw [Option.mem_def, Desk.preempt_rec, if_neg hxv]; exact hy
      exact hm.1 h (a.startLeadIn env c') (by rw [Option.mem_def, hr', if_pos rfl]) rfl (by rw [hcm]; rfl)

end Sys2Proof.Machine
end

