-- ==== Sys2Proof/Laws/Outcomes.lean ====
section
/-! SUPPORT. What a meaning's answer says, in the words of the statements: a taken request, an event, and a response that
changes nothing (spec/12 R170 to R172). -/

namespace Sys2Proof.Machine

open Sys2Proof

/-- `accept` takes its request: the state it was given is settled and the response is built from what that leaves. -/
theorem Takes.of_accept {code : Byte} {data data' : State → List (List Byte)} {u v : State} (h : u = v)
    (hd : data' (u.settle.respond code .ok (data u.settle)) = data u.settle) :
    Takes (accept code data u) v code data' := by
  subst h
  exact ⟨_, rfl, (u.settle_settledFrom).respond _ _ _, by rw [hd]; rfl⟩

/-- An event that ends in `settle` happens. -/
theorem Happens.of_settle {u v : State} (h : u = v) : Happens (.next u.settle) v := by
  subst h; exact ⟨_, rfl, u.settle_settledFrom, rfl⟩

/-- A refusal changes nothing but the response. -/
theorem Replies.of_refuse (code : Byte) (st : Status) (s : State) : Replies (refuse code st s) s code st [] := rfl

/-- A request that only reads changes nothing but the response. -/
theorem Replies.of_answer (code : Byte) (data : State → List (List Byte)) (s : State) :
    Replies (answer code data s) s code .ok (data s) := rfl

/-- What a settled state has of the state it was settled from. -/
theorem State.SettledFrom.field {u t : State} (h : u.SettledFrom t) {α : Type} (f : State → α)
    (hf : ∀ (ports : Vector PortRec 40) (roster : Roster) (events : Events) (reply : Option Reply),
      f { u with ports, roster, events, reply } = f u) : f t = f u := by
  rw [h.rest]; exact hf _ _ _ _

end Sys2Proof.Machine
end

