-- ==== Sys2Proof/Laws/Kept.lean ====
section
/-! SUPPORT. What an event at the Roster leaves of the records it does not name (`Ann.Kept`), of the order and the counter,
and of the coach flags; and what the accounting, an entry to DONE and the scan make of one record (spec/03, spec/04). -/

namespace Sys2Proof.Machine

open Sys2Proof

/-! ### One record -/

theorem Ann.Kept.refl (a : Ann) : a.Kept a := ⟨rfl, fun _ => rfl, List.Sublist.refl _, rfl⟩

theorem Ann.Kept.trans {a b c : Ann} (h : a.Kept b) (k : b.Kept c) : a.Kept c where
  fields := by rw [k.fields, h.fields]
  resting hs := by
    have e := h.resting hs
    subst e
    exact k.resting hs
  owed := k.owed.trans h.owed
  withheld := by rw [k.withheld, h.withheld]

theorem Ann.Kept.depart (v : Vector PortRec 40) (a : Ann) : a.Kept (a.depart v) := by
  unfold Ann.depart
  split
  · rename_i hs
    exact ⟨rfl, fun h => by rcases h with h | h <;> simp [hs] at h, List.Sublist.refl _, rfl⟩
  · exact Ann.Kept.refl a

theorem Ann.Kept.grant (env : State) (c : Channel) {a : Ann} (h : a.waits = true) :
    a.Kept (a.startLeadIn env c) := by
  refine ⟨rfl, fun hs => ?_, List.filter_sublist, ?_⟩
  · rcases hs with hs | hs <;> simp [Ann.waits, hs] at h
  · have := List.length_filter_le (env.eligible a) a.owed
    simp only [Ann.startLeadIn]; omega

theorem Ann.Kept.hold {a : Ann} (h : a.onAir = true) : a.Kept a.hold := by
  refine ⟨rfl, fun hs => ?_, List.Sublist.refl _, rfl⟩
  rcases hs with hs | hs <;> simp [Ann.onAir, hs] at h

/-! ### The desk -/

/-- An event at the desk that names the records of `X` alone. -/
structure Desk.Keeps (X : Handle → Prop) (d e : Desk) : Prop where
  order : e.roster.order = d.roster.order
  counter : e.roster.counter = d.roster.counter
  coach : e.coach ||| annMarks = d.coach ||| annMarks
  sticky : d.coach &&& e.coach = d.coach
  present : ∀ g, (d.roster.rec? g).isSome = (e.roster.rec? g).isSome
  kept : ∀ g, ¬X g → ∀ a b, d.roster.rec? g = some a → e.roster.rec? g = some b → a.Kept b

theorem Desk.Keeps.refl (X : Handle → Prop) (d : Desk) : d.Keeps X d :=
  ⟨rfl, rfl, rfl, BitVec.and_self, fun _ => rfl, fun _ _ a b ha hb => by rw [ha] at hb; cases hb; exact .refl a⟩

theorem Desk.Keeps.trans {X : Handle → Prop} {d e f : Desk} (h : d.Keeps X e) (k : e.Keeps X f) : d.Keeps X f where
  order := k.order.trans h.order
  counter := k.counter.trans h.counter
  coach := k.coach.trans h.coach
  sticky := by
    have h1 := h.sticky; have h2 := k.sticky
    rw [← h1, BitVec.and_assoc, h2]
  present g := (h.present g).trans (k.present g)
  kept g hg a c ha hc := by
    have hp := h.present g
    rw [ha, Option.isSome_some] at hp
    obtain ⟨b, hb⟩ := Option.isSome_iff_exists.1 hp.symm
    exact (h.kept g hg a b ha hb).trans (k.kept g hg b c hb hc)

theorem Desk.Keeps.mono {X Y : Handle → Prop} (hXY : ∀ g, X g → Y g) {d e : Desk} (h : d.Keeps X e) : d.Keeps Y e :=
  { h with kept := fun g hg => h.kept g fun hx => hg (hXY g hx) }

/-- A record is replaced where it stands. -/
theorem Desk.Keeps.put {X : Handle → Prop} {d : Desk} {h : Handle} {a : Ann} (ha : d.roster.rec? h = some a) (b : Ann)
    (hX : X h ∨ a.Kept b) : d.Keeps X { d with roster := d.roster.put h b } where
  order := rfl
  counter := rfl
  coach := rfl
  sticky := BitVec.and_self
  present g := by rw [Roster.rec_put]; split <;> simp_all
  kept g hg x y hx hy := by
    rw [Roster.rec_put] at hy
    split at hy
    · rename_i e; subst e
      rw [ha] at hx; cases hx; cases hy
      exact hX.resolve_left hg
    · rw [hx] at hy; cases hy; exact .refl x

theorem Desk.Keeps.flag (X : Handle → Prop) {k : CoachKind} (hk : k = .announceDone ∨ k = .announceRepeat) (d : Desk) :
    d.Keeps X (d.flag k) where
  order := rfl
  counter := rfl
  coach := by
    show (d.coach ||| k.mark) ||| annMarks = d.coach ||| annMarks
    rw [BitVec.or_assoc]
    rcases hk with rfl | rfl <;> rfl
  sticky := by
    show d.coach &&& (d.coach ||| k.mark) = d.coach
    apply BitVec.eq_of_getLsbD_eq
    intro i _
    simp only [BitVec.getLsbD_and, BitVec.getLsbD_or]
    cases d.coach.getLsbD i <;> rfl
  present _ := rfl
  kept g _ a b ha hb := by
    change d.roster.rec? g = some b at hb
    rw [ha] at hb; cases hb; exact .refl a

theorem Desk.Keeps.update {X : Handle → Prop} {d : Desk} {h : Handle} {f : Ann → Ann}
    (hX : X h ∨ ∀ a, d.roster.rec? h = some a → a.Kept (f a)) : d.Keeps X (d.update h f) := by
  unfold Desk.update
  split
  · rename_i a ha
    exact .put ha (f a) (hX.imp_right fun h => h a ha)
  · exact .refl X d

theorem Desk.grant_keeps (X : Handle → Prop) (env : State) {h : Handle} {d : Desk}
    (hw : ∀ a, d.roster.rec? h = some a → a.waits = true) : d.Keeps X (d.grant env h) := by
  unfold Desk.grant
  split
  · rename_i a c ha _
    have key := Desk.Keeps.put (X := X) ha (a.startLeadIn env c) (.inr (.grant env c (hw a ha)))
    dsimp only
    split
    · exact key.trans (.flag X (.inr rfl) _)
    · exact key
  · exact .refl X d

theorem Desk.offer_keeps (X : Handle → Prop) (env : State) (d : Desk) (h : Handle) : d.Keeps X (d.offer env h) := by
  unfold Desk.offer
  split
  · rename_i hc
    simp only [Bool.and_eq_true, Roster.grantable, Roster.test_eq_true] at hc
    obtain ⟨⟨a, ha, hw⟩, -⟩ := hc
    exact Desk.grant_keeps X env fun b hb => by rw [ha] at hb; cases hb; exact hw.1
  · exact .refl X d

/-- The scan names no record. -/
theorem Desk.scan_keeps (X : Handle → Prop) (env : State) (d : Desk) : d.Keeps X (d.scan env) := by
  unfold Desk.scan
  generalize d.roster.waitList = l
  induction l generalizing d with
  | nil => exact .refl X d
  | cons h l ih => exact (Desk.offer_keeps X env d h).trans (ih _)

/-- A join names no record: the victim is held, the rest is the scan. -/
theorem Desk.join_keeps (X : Handle → Prop) (env : State) (d : Desk) (h : Handle) : d.Keeps X (d.join env h) := by
  unfold Desk.join
  have h1 := Desk.scan_keeps X env d
  generalize d.scan env = d1 at h1
  dsimp only
  split
  · rename_i hw
    split
    · rename_i v hv
      obtain ⟨b, hb, hair⟩ := Roster.victim_onAir hv
      have h2 : d1.Keeps X (d1.update v Ann.hold) :=
        .update (.inr fun a ha => by rw [hb] at ha; cases ha; exact .hold hair)
      refine (h1.trans h2).trans ((Desk.grant_keeps X env ?_).trans (Desk.scan_keeps X env _))
      intro a ha
      rw [Desk.update_rec] at ha
      split at ha
      · obtain ⟨c, -, rfl⟩ := Option.map_eq_some_iff.1 ha; exact Ann.hold_waits c
      · obtain ⟨c, hc, hcw⟩ := Roster.test_eq_true.1 hw
        rw [hc] at ha; cases ha; exact hcw
    · exact h1
  · exact h1

theorem Desk.finish_keeps {X : Handle → Prop} {h : Handle} (hX : X h) (o : AnnOutcome) (d : Desk) :
    d.Keeps X (d.finish o h) := by
  unfold Desk.finish
  split
  · exact (Desk.Keeps.update (.inl hX)).trans (.flag X (.inl rfl) _)
  · exact .refl X d

theorem Desk.account_keeps {X : Handle → Prop} {h : Handle} (hX : X h) (d : Desk) : d.Keeps X (d.account h) := by
  unfold Desk.account
  split
  · exact .refl X d
  · rename_i a ha
    have hput := Desk.Keeps.put (X := X) ha a.reach (.inl hX)
    dsimp only
    split
    · exact hput.trans (Desk.finish_keeps hX _ _)
    · split
      · exact .put ha _ (.inl hX)
      · exact hput.trans (Desk.finish_keeps hX _ _)

theorem Desk.endRepetition_keeps {X : Handle → Prop} {h : Handle} (hX : X h) (env : State) (d : Desk) :
    d.Keeps X (d.endRepetition env h) := (Desk.account_keeps hX d).trans (Desk.scan_keeps X env _)

/-! ### What one record becomes -/

/-- The scan leaves a record that does not wait as it is. -/
theorem Desk.scan_rec_of_not_waits (env : State) {d : Desk} {g : Handle} {a : Ann} (ha : d.roster.rec? g = some a)
    (hw : a.waits = false) : (d.scan env).roster.rec? g = some a := by
  unfold Desk.scan
  generalize d.roster.waitList = l
  induction l generalizing d with
  | nil => exact ha
  | cons h l ih =>
    refine ih ?_
    unfold Desk.offer
    split
    · rename_i hc
      simp only [Bool.and_eq_true, Roster.grantable, Roster.test_eq_true] at hc
      obtain ⟨⟨b, hb, hbw⟩, -⟩ := hc
      have hne : g ≠ h := by
        intro e; subst e
        rw [ha] at hb; cases hb
        simp [hw] at hbw
      unfold Desk.grant
      split
      · dsimp only
        split <;> simp only [Desk.flag_roster, Roster.rec_put, if_neg hne, ha]
      · exact ha
    · exact ha

theorem Roster.put_put (r : Roster) (h : Handle) (a b : Ann) : (r.put h a).put h b = r.put h b := by
  simp [Roster.put, Vector.set_set]

/-- Entry to DONE replaces the record and sets ANNOUNCE_DONE (R55). -/
theorem Desk.finish_eq {d : Desk} {h : Handle} {a : Ann} (ha : d.roster.rec? h = some a) (o : AnnOutcome) :
    d.finish o h =
      { roster := d.roster.put h (a.ended o), coach := d.coach ||| CoachKind.announceDone.mark } := by
  unfold Desk.finish Desk.update
  simp only [ha, Option.isSome_some, if_true]
  rfl

/-- The accounting of R76 replaces the record it names, and sets ANNOUNCE_DONE exactly if that makes it DONE. -/
theorem Desk.account_eq {d : Desk} {h : Handle} {a : Ann} (ha : d.roster.rec? h = some a) :
    d.account h =
      { roster := d.roster.put h (a.afterPlayout a.joined)
        coach :=
          if (a.afterPlayout a.joined).state = .done then d.coach ||| CoachKind.announceDone.mark else d.coach } := by
  unfold Desk.account Ann.afterPlayout
  rw [ha]
  dsimp only
  have hput : ({ d with roster := d.roster.put h a.reach } : Desk).roster.rec? h = some a.reach := by
    simp [Roster.rec_put]
  have howed : a.reach.owed = a.owed.filter fun p => !a.joined.contains p := rfl
  have hleft : a.reach.left = a.left := rfl
  rw [howed, hleft]
  split
  · rw [Desk.finish_eq hput, Roster.put_put, if_pos rfl]; rfl
  · split
    · rw [if_neg (by simp)]; rfl
    · rw [Desk.finish_eq hput, Roster.put_put, if_pos rfl]; rfl

theorem Ann.afterPlayout_not_waits (joined : PortSet) (a : Ann) : (a.afterPlayout joined).waits = false := by
  unfold Ann.afterPlayout
  dsimp only
  split
  · rfl
  · split <;> rfl

theorem Ann.afterPlayout_depart (joined : PortSet) (a : Ann) (v : Vector PortRec 40) :
    (a.afterPlayout joined).depart v = a.afterPlayout joined := by
  have h : (a.afterPlayout joined).state ≠ .playing := by
    unfold Ann.afterPlayout
    dsimp only
    split
    · simp
    · split <;> simp
  unfold Ann.depart; rw [if_neg h]

/-- A flag set before the scan is set after it. -/
theorem Desk.scan_done {env : State} {d : Desk} {v : BitVec 8} (h : d.coach = v ||| CoachKind.announceDone.mark) :
    (d.scan env).coach.getLsbD CoachKind.announceDone.bit = true := by
  have hs := (Desk.scan_keeps (fun _ => True) env d).sticky
  rw [← hs] at h
  have h3 := congrArg (fun v => v.getLsbD CoachKind.announceDone.bit) h
  simp only [BitVec.getLsbD_and, BitVec.getLsbD_or] at h3
  rw [show CoachKind.announceDone.mark.getLsbD CoachKind.announceDone.bit = true by decide, Bool.or_true,
    Bool.and_eq_true] at h3
  exact h3.2

/-! ### The whole state -/

/-- The desk an event at the Roster leaves. -/
def State.deskAfter (s : State) (f : State → Desk → Desk) : Desk :=
  f s { roster := s.roster, coach := s.events.coach }

theorem State.atDesk_eq (s : State) (f : State → Desk → Desk) :
    s.atDesk f = { s with
      roster := (s.deskAfter f).roster, events := { s.events with coach := (s.deskAfter f).coach } } := rfl

/-- What a settled event at the Roster changes. -/
theorem State.rosterOnly_of_keeps {s t : State} {f : State → Desk → Desk}
    (hc : (s.deskAfter f).coach ||| annMarks = s.events.coach ||| annMarks)
    (hk : s.events.coach &&& (s.deskAfter f).coach = s.events.coach) (ht : (s.atDesk f).SettledFrom t) :
    s.RosterOnly t (s.deskAfter f) where
  ports := ht.ports
  roster := ht.roster
  flags := by rw [ht.events]; rfl
  coach := by rw [ht.events]; exact hc
  sticky := by rw [ht.events]; exact hk
  rest := by
    have h := ht.rest
    have e := ht.events
    generalize t.events = ev at h e
    subst e
    exact h

/-- The records a settled event at the Roster leaves: those of the desk, departed. -/
theorem State.SettledFrom.rec_desk {s t : State} {f : State → Desk → Desk} (ht : (s.atDesk f).SettledFrom t)
    (h : Handle) : t.roster.rec? h = ((s.deskAfter f).roster.rec? h).map (Ann.depart t.ports) := by
  rw [ht.roster, Roster.depart_rec]; rfl

theorem State.SettledFrom.othersKept {s t : State} {f : State → Desk → Desk} {h : Handle}
    (hk : Desk.Keeps (· = h) { roster := s.roster, coach := s.events.coach } (s.deskAfter f))
    (ht : (s.atDesk f).SettledFrom t) : s.roster.OthersKept t.roster h := by
  intro g hg
  refine ⟨?_, ?_⟩
  · rw [ht.rec_desk, Option.isSome_map]; exact hk.present g
  · intro a b ha hb
    rw [ht.rec_desk] at hb
    obtain ⟨c, hc, rfl⟩ := Option.map_eq_some_iff.1 hb
    exact (hk.kept g hg a c ha hc).trans (.depart _ c)

/-- Replacing the record of slot `h` names that slot alone. -/
theorem State.deskWith_keeps {s : State} {h : Handle} {a : Ann} (ha : s.roster.rec? h = some a) (b : Ann) :
    Desk.Keeps (· = h) { roster := s.roster, coach := s.events.coach } (s.deskWith h b) := by
  have hput := Desk.Keeps.put (X := (· = h)) (d := { roster := s.roster, coach := s.events.coach }) ha b (.inl rfl)
  unfold State.deskWith
  split
  · exact hput.trans (.flag _ (.inl rfl) _)
  · exact hput

/-- An event at the Roster that leaves in slot `h` a record that neither waits nor plays, followed by the scan. -/
theorem State.SettledFrom.slotEnds {s t : State} {f : State → Desk → Desk} {h : Handle} {a b : Ann}
    (ha : s.roster.rec? h = some a) (e : s.deskAfter f = (s.deskWith h b).scan s) (hw : b.waits = false)
    (hd : b.state ≠ .playing) (ht : (s.atDesk f).SettledFrom t) : s.SlotEnds t h b := by
  have hk := (State.deskWith_keeps ha b).trans (Desk.scan_keeps _ s (s.deskWith h b))
  rw [← e] at hk
  have hb : (s.deskAfter f).roster.rec? h = some b := by
    rw [e]
    exact Desk.scan_rec_of_not_waits s (by
      show (s.roster.put h b).rec? h = some b
      rw [Roster.rec_put, if_pos rfl]) hw
  exact
    { only := by rw [← e]; exact State.rosterOnly_of_keeps hk.coach hk.sticky ht
      record := by
        rw [ht.rec_desk, hb, Option.map_some]
        unfold Ann.depart; rw [if_neg hd]
      flag := by
        intro hs
        unfold Events.flag
        rw [ht.events]
        show (s.deskAfter f).coach.getLsbD CoachKind.announceDone.bit = true
        rw [e]
        exact Desk.scan_done (by unfold State.deskWith; rw [if_pos hs])
      others := ht.othersKept hk
      order := by rw [ht.roster]; exact hk.order
      counter := by rw [ht.roster]; exact hk.counter }

end Sys2Proof.Machine
end

