-- ==== Sys2Proof/Laws/Announcements.lean ====
section
/-! SUPPORT. The ends of playouts and records, admissions and the retire, as the statements of Safety say them (spec/03 R50
to R55; 04 R70, R76 to R80). -/

namespace Sys2Proof.Machine

open Sys2Proof

/-! ### The scan at one record -/

theorem Desk.grant_rec (env : State) {d : Desk} {h : Handle} {a : Ann} {c : Channel} (ha : d.roster.rec? h = some a)
    (hc : d.roster.freeChannel = some c) (g : Handle) :
    (d.grant env h).roster.rec? g = if g = h then some (a.startLeadIn env c) else d.roster.rec? g := by
  unfold Desk.grant
  simp only [ha, hc]
  split <;> simp only [Desk.flag_roster, Roster.rec_put]

/-- The scan leaves a record as it is, or starts its lead-in (R58, R70). -/
theorem Desk.scan_rec (env : State) {d : Desk} {g : Handle} {a : Ann} (ha : d.roster.rec? g = some a) :
    (d.scan env).roster.rec? g = some a ∨
      a.waits = true ∧ ∃ c, (d.scan env).roster.rec? g = some (a.startLeadIn env c) := by
  unfold Desk.scan
  generalize d.roster.waitList = l
  induction l generalizing d with
  | nil => exact .inl ha
  | cons h l ih =>
    rw [List.foldl_cons]
    unfold Desk.offer
    split
    · rename_i hc
      simp only [Bool.and_eq_true, Roster.grantable, Roster.test_eq_true] at hc
      obtain ⟨⟨b, hb, hbw⟩, hfree⟩ := hc
      obtain ⟨c, hc⟩ := Option.isSome_iff_exists.1 hfree
      by_cases e : g = h
      · subst e
        rw [ha] at hb; cases hb
        have hr := Desk.grant_rec env ha hc g
        rw [if_pos rfl] at hr
        refine .inr ⟨hbw.1, c, ?_⟩
        have hn : (a.startLeadIn env c).waits = false := rfl
        clear ih
        generalize d.grant env g = d' at hr
        induction l generalizing d' with
        | nil => exact hr
        | cons k l ih =>
          refine ih _ ?_
          dsimp only
          split
          · rename_i hk
            simp only [Bool.and_eq_true, Roster.grantable, Roster.test_eq_true] at hk
            obtain ⟨⟨b, hb, hbw⟩, hfree⟩ := hk
            obtain ⟨c', hc'⟩ := Option.isSome_iff_exists.1 hfree
            rw [Desk.grant_rec env hb hc', if_neg]
            · exact hr
            · intro e; subst e
              rw [hr] at hb; cases hb
              rw [hn] at hbw; exact absurd hbw.1 (by simp)
          · exact hr
      · refine ih ?_
        rw [Desk.grant_rec env hb hc, if_neg e]; exact ha
    · exact ih ha

/-- A record that joins as QUEUED is QUEUED or in LEAD_IN after the join (R58, R60). -/
theorem Desk.join_state {env : State} {d : Desk} {h : Handle} {a b : Ann} (ha : d.roster.rec? h = some a)
    (hq : a.state = .queued) (hb : (d.join env h).roster.rec? h = some b) : b.state = .queued ∨ b.state = .leadIn := by
  have scan : ∀ {d : Desk} {a b : Ann}, d.roster.rec? h = some a → (a.state = .queued ∨ a.state = .leadIn) →
      (d.scan env).roster.rec? h = some b → b.state = .queued ∨ b.state = .leadIn := by
    intro d a b ha hs hb
    rcases Desk.scan_rec env ha with e | ⟨-, c, e⟩
    · rw [e] at hb; cases hb; exact hs
    · rw [e] at hb; cases hb; exact .inr rfl
  unfold Desk.join at hb
  have hp := (Desk.scan_keeps (fun _ => True) env d).present h
  rw [ha] at hp
  obtain ⟨a1, ha1⟩ := Option.isSome_iff_exists.1 hp.symm
  have hs1 := scan ha (.inl hq) ha1
  generalize d.scan env = d1 at hb ha1
  dsimp only at hb
  split at hb
  · rename_i hw
    split at hb
    · rename_i v hv
      have hvh : h ≠ v := by
        rintro rfl
        obtain ⟨b', hb', hair⟩ := Roster.victim_onAir hv
        obtain ⟨a', ha', hwt⟩ := Roster.test_eq_true.1 hw
        rw [ha'] at hb'; cases hb'
        rw [Ann.not_onAir_of_waits hwt] at hair; cases hair
      have h2 : (d1.update v Ann.hold).roster.rec? h = some a1 := by
        rw [Desk.update_rec, if_neg hvh]; exact ha1
      generalize d1.update v Ann.hold = d2 at hb h2
      have h3 : ∃ a3, (d2.grant env h).roster.rec? h = some a3 ∧ (a3.state = .queued ∨ a3.state = .leadIn) := by
        cases hc : d2.roster.freeChannel with
        | none => exact ⟨a1, by unfold Desk.grant; simp only [h2, hc], hs1⟩
        | some c => exact ⟨_, by rw [Desk.grant_rec env h2 hc, if_pos rfl], .inr rfl⟩
      obtain ⟨a3, h3, hs3⟩ := h3
      exact scan h3 hs3 hb
    · rw [ha1] at hb; cases hb; exact hs1
  · rw [ha1] at hb; cases hb; exact hs1

/-! ### Ends -/

theorem Ann.afterPlayout_state (joined : PortSet) (a : Ann) : (a.afterPlayout joined).state ≠ .playing := by
  unfold Ann.afterPlayout
  dsimp only
  split
  · simp
  · split <;> simp

/-- A repetition of slot `h` ends by the accounting of R76, after `f` has prepared its record alone. -/
theorem State.slotEnds_of_endRepetition {s t : State} {h : Handle} {x a : Ann} (f : State → Desk → Desk)
    (hx : s.roster.rec? h = some x)
    (hf : s.deskAfter f = { roster := s.roster.put h a, coach := s.events.coach })
    (ht : (s.atDesk fun env d => Desk.endRepetition env h (f env d)).SettledFrom t) :
    s.SlotEnds t h (a.afterPlayout a.joined) := by
  refine ht.slotEnds hx ?_ (Ann.afterPlayout_not_waits _ _) (Ann.afterPlayout_state _ _)
  show ((s.deskAfter f).account h).scan s = _
  rw [hf, Desk.account_eq (a := a) (by simp [Roster.rec_put]), Roster.put_put]
  rfl

theorem Roster.put_self {r : Roster} {h : Handle} {a : Ann} (ha : r.rec? h = some a) : r.put h a = r := by
  unfold Roster.rec? at ha
  unfold Roster.put
  rw [← ha]
  simp

/-- A record of slot `h` enters DONE without the accounting, and the scan follows (R55, R63, R64). -/
theorem State.slotEnds_of_finish {s t : State} {h : Handle} {a : Ann} (o : AnnOutcome) (ha : s.roster.rec? h = some a)
    (ht : (s.atDesk fun env d => (d.finish o h).scan env).SettledFrom t) : s.SlotEnds t h (a.ended o) := by
  refine ht.slotEnds ha ?_ rfl (by simp [Ann.ended])
  show (Desk.finish o h { roster := s.roster, coach := s.events.coach }).scan s = _
  rw [Desk.finish_eq ha]
  rfl

theorem Source.exclusive_of_feed {src : Source} {f : FeedIx} (h : src.feed = some f) : src.exclusive = true := by
  cases src <;> simp [Source.feed] at h <;> rfl

/-- The record PLAYING from an exclusive source is the one. -/
theorem Roster.playingFrom_eq {r : Roster} {h : Handle} {a : Ann} (hr : r.Lawful) (ha : r.rec? h = some a)
    (hp : a.state = .playing) (hx : a.source.exclusive = true) : r.playingFrom a.source = some h := by
  unfold Roster.playingFrom
  cases hf : allHandles.find? _ with
  | none =>
    rw [List.find?_eq_none] at hf
    exact absurd (Roster.test_eq_true.2 ⟨a, ha, by simp [hp]⟩) (hf h (List.mem_finRange h))
  | some g =>
    obtain ⟨b, hb, hc⟩ := Roster.test_eq_true.1 (List.find?_some hf)
    simp only [Bool.and_eq_true, decide_eq_true_eq] at hc
    rw [hr.exclusive h g a ha b hb (Ann.onAir_of_playing hp) (Ann.onAir_of_playing hc.1) (.inr ⟨hc.2.symm, hx⟩)]

/-- A playout ends as its feed leaves ACTIVE: with its joined berths reached, or with nobody (R75, R77). -/
theorem State.slotEnds_of_endPlayout {u t : State} {h : Handle} {a : Ann} {src : Source} (hr : u.roster.Lawful)
    (ha : u.roster.rec? h = some a) (hp : a.state = .playing) (hs : a.source = src) (hx : src.exclusive = true)
    (reach : Bool) (ht : (u.atDesk fun env => Desk.endPlayoutFrom env src reach).SettledFrom t) :
    u.SlotEnds t h (a.afterPlayout (if reach then a.joined else [])) := by
  subst hs
  have e : (u.atDesk fun env => Desk.endPlayoutFrom env a.source reach) =
      u.atDesk fun env d => Desk.endRepetition env h (if reach then d else d.update h Ann.unjoin) := by
    unfold State.atDesk Desk.endPlayoutFrom
    dsimp only
    rw [Roster.playingFrom_eq hr ha hp hx]
  rw [e] at ht
  cases reach with
  | true =>
    refine State.slotEnds_of_endRepetition (fun _ d => d) ha ?_ ht
    rw [Roster.put_self ha]; rfl
  | false =>
    refine State.slotEnds_of_endRepetition (a := a.unjoin) (fun _ d => d.update h Ann.unjoin) ha ?_ ht
    show Desk.update h Ann.unjoin { roster := u.roster, coach := u.events.coach } = _
    unfold Desk.update
    simp only [ha]

/-! ### Admission -/

theorem Roster.freeSlot_eq {r : Roster} {h : Handle} (hh : h.val < 15) (hn : r.rec? h = none)
    (hlt : ∀ g : Handle, g < h → r.rec? g ≠ none) : r.freeSlot = some h := by
  unfold Roster.freeSlot
  rw [List.find?_eq_some_iff_getElem]
  refine ⟨by simp [hh, hn], h.val, by simp [allHandles], by simp [allHandles], ?_⟩
  intro j hj
  have e : allHandles[j]'(by simp [allHandles]; omega) = (⟨j, by omega⟩ : Handle) := by simp [allHandles]
  rw [e]
  simp only [Bool.not_eq_true', Bool.and_eq_false_iff, Option.isNone_eq_false_iff]
  exact .inr (Option.isSome_iff_ne_none.2 (hlt ⟨j, by omega⟩ hj))

theorem Roster.freeSlot_none {r : Roster} (h : ∀ g : Handle, g.val < 15 → r.rec? g ≠ none) : r.freeSlot = none := by
  unfold Roster.freeSlot
  rw [List.find?_eq_none]
  intro g _
  simp only [Bool.and_eq_true, decide_eq_true_eq, Option.isNone_iff_eq_none, not_and]
  exact h g

theorem Roster.numberFree_iff {r : Roster} {n : Count32} :
    r.numberFree n = true ↔ ∀ g : Handle, ∀ b ∈ r.rec? g, b.number ≠ n := by
  unfold Roster.numberFree
  simp only [Bool.not_eq_true', List.any_eq_false, Bool.not_eq_true]
  constructor
  · intro h g b hb he
    have := h g (List.mem_finRange g)
    rw [← Bool.not_eq_true, Roster.test_eq_true] at this
    exact this ⟨b, hb, by simp [he]⟩
  · intro h g _
    rw [← Bool.not_eq_true, Roster.test_eq_true]
    rintro ⟨b, hb, he⟩
    exact h g b hb (by simpa using he)

/-- The numbers passed over are held by records present (R50). -/
theorem Roster.nextNumber_passes {r : Roster} (fuel : Nat) (n : Count32) :
    ∀ k < (r.nextNumber fuel n - n).toNat, r.numberFree (n + BitVec.ofNat 32 k) = false := by
  induction fuel generalizing n with
  | zero => intro k hk; simp [Roster.nextNumber] at hk
  | succ fuel ih =>
    unfold Roster.nextNumber
    split
    · intro k hk; simp at hk
    · rename_i hn
      intro k hk
      cases k with
      | zero => simpa using hn
      | succ j =>
        have := ih (n + 1#32) j (by
          generalize r.nextNumber fuel (n + 1#32) = m at hk
          rw [BitVec.toNat_sub] at hk ⊢
          rw [BitVec.toNat_add]
          have hm := m.isLt
          have hlt := n.isLt
          simp only [BitVec.toNat_ofNat] at *
          omega)
        rwa [show n + BitVec.ofNat 32 (j + 1) = n + 1#32 + BitVec.ofNat 32 j from by
          rw [BitVec.add_assoc]; congr 1; apply BitVec.eq_of_toNat_eq; simp; omega]

theorem Roster.nextNumber_spec {r : Roster} (k : Nat) (n : Count32) :
    r.numberFree (r.nextNumber k n) = true ∨ ∀ j < k, r.numberFree (n + BitVec.ofNat 32 j) = false := by
  induction k generalizing n with
  | zero => exact .inr fun j hj => by omega
  | succ k ih =>
    unfold Roster.nextNumber
    split
    · left; assumption
    · rename_i hn
      rcases ih (n + 1#32) with h | h
      · exact .inl h
      · right
        intro j hj
        cases j with
        | zero => simpa using hn
        | succ j =>
          have := h j (by omega)
          rwa [show n + BitVec.ofNat 32 (j + 1) = n + 1#32 + BitVec.ofNat 32 j from by
            rw [BitVec.add_assoc]; congr 1; apply BitVec.eq_of_toNat_eq; simp; omega]

/-- With a FREE slot there are at most 15 records, so one of 16 numbers in a row is free (R50). -/
theorem Roster.nextNumber_free {r : Roster} {h : Handle} (hn : r.rec? h = none) (n : Count32) :
    r.numberFree (r.nextNumber 16 n) = true := by
  rcases Roster.nextNumber_spec (r := r) 16 n with h1 | h1
  · exact h1
  exfalso
  have key : ∀ j : Fin 16, ∃ g : Handle, ∃ b, r.rec? g = some b ∧ b.number = n + BitVec.ofNat 32 j.val := by
    intro j
    have := h1 j.val j.isLt
    rw [← Bool.not_eq_true, Roster.numberFree_iff] at this
    simp only [not_forall, not_not] at this
    obtain ⟨g, b, hb, e⟩ := this
    exact ⟨g, b, hb, e⟩
  choose g b hb hnum using key
  have inj : Function.Injective g := by
    intro i j e
    have hbb := hb i; rw [e, hb j] at hbb
    have h3 := hnum i; rw [← Option.some.inj hbb, hnum j] at h3
    have := congrArg BitVec.toNat (BitVec.add_right_inj .. |>.1 h3.symm)
    simp at this
    exact Fin.ext (by omega)
  obtain ⟨j, hj⟩ := Finite.surjective_of_injective inj h
  have := hb j
  rw [hj, hn] at this
  cases this

/-- What stands in each slot once a record is placed, with its number (R50). -/
theorem Roster.rec_enroll (r : Roster) (h g : Handle) (a : Ann) :
    (r.enroll h a).rec? g =
      if g = h then some { a with number := (r.free h).nextNumber 16 (r.free h).counter } else r.rec? g := by
  have e := Roster.rec_free r h g
  unfold Roster.enroll
  generalize r.free h = r' at e
  unfold Roster.rec? at e ⊢
  simp only [Fin.getElem_fin, Vector.getElem_set, Fin.ext_iff] at e ⊢
  by_cases hg : h.val = g.val
  · simp [hg]
  · rw [if_neg hg, if_neg (Ne.symm hg), e, if_neg (Ne.symm hg)]

/-- The Roster with a new record placed, its number given (R50, R52). -/
def Roster.placed (r : Roster) (h : Handle) (n : Count32) (a : Ann) : Roster :=
  { recs := r.recs.set h.val (some a), order := r.order.filter (· != h) ++ [h], counter := n + 1#32 }

theorem Roster.rec_placed (r : Roster) (h g : Handle) (n : Count32) (a : Ann) :
    (r.placed h n a).rec? g = if g = h then some a else r.rec? g := Roster.rec_put r h g a

theorem Roster.enroll_eq (r : Roster) (h : Handle) (a : Ann) :
    r.enroll h a = r.placed h ((r.free h).nextNumber 16 (r.free h).counter)
      { a with number := (r.free h).nextNumber 16 (r.free h).counter } := by
  unfold Roster.enroll Roster.placed Roster.free
  simp [Vector.set_set]

/-- The number an admission takes: one no other record holds, and the first such from the counter on (R50). -/
theorem Roster.admission_number (r : Roster) (h : Handle) :
    let n := (r.free h).nextNumber 16 (r.free h).counter
    (∀ g : Handle, g ≠ h → ∀ b ∈ r.rec? g, b.number ≠ n) ∧
      ∀ k < (n - r.counter).toNat, ∃ g : Handle, g ≠ h ∧ ∃ b ∈ r.rec? g, b.number = r.counter + BitVec.ofNat 32 k := by
  intro n
  have hfree : (r.free h).rec? h = none := by rw [Roster.rec_free, if_pos rfl]
  refine ⟨fun g hg b hb => ?_, fun k hk => ?_⟩
  · exact Roster.numberFree_iff.1 (Roster.nextNumber_free hfree (r.free h).counter) g b
      (by rw [Option.mem_def, Roster.rec_free, if_neg hg]; exact hb)
  · have held := Roster.nextNumber_passes 16 (r.free h).counter k hk
    rw [← Bool.not_eq_true, Roster.numberFree_iff] at held
    simp only [not_forall, not_not] at held
    obtain ⟨g, b, hb, e⟩ := held
    rw [Option.mem_def, Roster.rec_free] at hb
    split at hb
    · cases hb
    · exact ⟨g, ‹_›, b, hb, e⟩

/-- The admission order still lists each occupied slot once. -/
theorem Roster.Ordered.placed {r : Roster} (ho : r.Ordered) (h : Handle) (n : Count32) (a : Ann) :
    (r.placed h n a).Ordered := by
  refine ⟨?_, fun g => ?_⟩
  · show (r.order.filter (· != h) ++ [h]).Nodup
    rw [List.nodup_append]
    refine ⟨ho.1.filter _, List.nodup_singleton h, ?_⟩
    intro x hx y hy
    rw [List.mem_singleton] at hy; subst hy
    simpa using (List.mem_filter.1 hx).2
  · show g ∈ r.order.filter (· != h) ++ [h] ↔ _
    rw [Roster.rec_placed]
    by_cases e : g = h
    · simp [e]
    · simp [e, ho.2 g]

/-- A QUEUED record placed where none was on the air, or made QUEUED where it stands, joins as `Desk.Joined` says. -/
theorem State.joins_law {s : State} {r : Roster} {h : Handle} {q : Ann} (hr : r.rec? h = some q) (hq : q.state = .queued)
    (hrec : ∀ g, g ≠ h → r.rec? g = s.roster.rec? g) (hoff : ∀ x, s.roster.rec? h = some x → x.onAir = false)
    (hord : s.roster.Ordered → r.Ordered) (hshape : q.Shaped) (hl : s.roster.Lawful) (hs : s.roster.Served) :
    Desk.Joined s h q.source { roster := r, coach := s.events.coach }
      (Desk.join s h { roster := r, coach := s.events.coach }) := by
  have hqoff : q.onAir = false := by simp [Ann.onAir, hq]
  have hair : ∀ g b, b.onAir = true → (r.rec? g = some b ↔ s.roster.rec? g = some b) := by
    intro g b hb
    by_cases e : g = h
    · subst e
      constructor
      · intro h1; rw [hr] at h1; cases h1; rw [hqoff] at hb; cases hb
      · intro h1; rw [hoff b h1] at hb; cases hb
    · rw [hrec g e]
  refine Desk.join_joined s ?_ ?_ (hord hl.ordered) hr (by simp [Ann.waits, hq]) ?_
  · intro g b hb
    by_cases e : g = h
    · subst e; rw [Option.mem_def, hr] at hb; cases hb; exact hshape
    · exact hl.shaped g b (by rw [Option.mem_def, ← hrec g e]; exact hb)
  · intro g k a ha b hb haa hba
    exact hl.exclusive g k a ((hair g a haa).1 ha) b ((hair k b hba).1 hb) haa hba
  · rintro ⟨c, hc⟩ g hg b hb hbw hbs
    refine hs ⟨c, ?_, ?_⟩ g b (by rw [Option.mem_def, ← hrec g hg]; exact hb) hbw ?_
    · intro k x hx hxa
      exact hc.1 k x ((hair k x hxa).2 hx) hxa
    · intro k hk
      obtain ⟨g', x, hx, hxa, hxk⟩ := hc.2 k hk
      exact ⟨g', x, (hair g' x hxa).1 hx, hxa, hxk⟩
    · intro hx k x hxr hxa
      exact hbs hx k x ((hair k x hxa).2 hxr) hxa

/-- A settled join of a QUEUED record, with what it makes of the record itself. -/
theorem State.joins_of_settled {s t : State} {r : Roster} {h : Handle} {q : Ann} {f : State → Desk → Desk}
    (hr : r.rec? h = some q) (hq : q.state = .queued) (hrec : ∀ g, g ≠ h → r.rec? g = s.roster.rec? g)
    (hoff : ∀ x, s.roster.rec? h = some x → x.onAir = false) (hord : s.roster.Ordered → r.Ordered) (hshape : q.Shaped)
    (hf : s.deskAfter f = Desk.join s h { roster := r, coach := s.events.coach }) (ht : (s.atDesk f).SettledFrom t) :
    s.Joins t r h q ∧ s.roster.OthersKept t.roster h ∧ t.roster.order = r.order ∧ t.roster.counter = r.counter ∧
      ∃ b, t.roster.rec? h = some b ∧ q.Kept b ∧ (b.state = .queued ∨ b.state = .leadIn) := by
  have hk := fun X => Desk.join_keeps X s { roster := r, coach := s.events.coach } h
  rw [← hf] at hk
  refine ⟨⟨?_, State.joins_law hr hq hrec hoff hord hshape⟩, ?_, ?_, ?_, ?_⟩
  · rw [← hf]; exact State.rosterOnly_of_keeps (hk (fun _ => True)).coach (hk (fun _ => True)).sticky ht
  · intro g hg
    refine ⟨?_, fun a b ha hb => ?_⟩
    · rw [ht.rec_desk, Option.isSome_map, ← (hk fun _ => True).present g]
      exact congrArg Option.isSome (hrec g hg).symm
    · rw [ht.rec_desk] at hb
      obtain ⟨c, hc, rfl⟩ := Option.map_eq_some_iff.1 hb
      exact ((hk fun _ => False).kept g id a c ((hrec g hg).trans ha) hc).trans (.depart _ c)
  · rw [ht.roster]; exact (hk fun _ => True).order
  · rw [ht.roster]; exact (hk fun _ => True).counter
  · have hp := (hk fun _ => True).present h
    rw [show (({ roster := r, coach := s.events.coach } : Desk).roster.rec? h) = some q from hr] at hp
    obtain ⟨b, hb⟩ := Option.isSome_iff_exists.1 hp.symm
    refine ⟨b.depart t.ports, by rw [ht.rec_desk, hb]; rfl, ?_, ?_⟩
    · exact ((hk fun _ => False).kept h id q b hr hb).trans (.depart _ b)
    · rw [Ann.depart_state]
      rw [hf] at hb
      exact Desk.join_state (d := { roster := r, coach := s.events.coach }) hr hq hb

/-- An admission into a slot that holds no live record (R50, R52, R53). -/
theorem State.admits_of_enroll {s t : State} {h : Handle} {a : Ann} {owed : PortSet}
    (hdone : ∀ x, s.roster.rec? h = some x → x.state = .done)
    (ht : (s.atDesk fun env => Desk.enroll env h (a.asAdmitted owed)).SettledFrom t) : s.Admits t h a owed := by
  obtain ⟨h1, h2⟩ := Roster.admission_number s.roster h
  have he := Roster.enroll_eq s.roster h (a.asAdmitted owed)
  generalize hn : (s.roster.free h).nextNumber 16 (s.roster.free h).counter = n at h1 h2 he
  generalize hq : ({ a.asAdmitted owed with number := n } : Ann) = q at he
  have hrec : ∀ x g, g ≠ h → (s.roster.placed h n x).rec? g = s.roster.rec? g := by
    intro x g hg; rw [Roster.rec_placed, if_neg hg]
  have hself : ∀ x, (s.roster.placed h n x).rec? h = some x := by
    intro x; rw [Roster.rec_placed, if_pos rfl]
  have hdesk : s.deskAfter (fun env => Desk.enroll env h (a.asAdmitted owed)) =
      if owed = [] then
        Desk.finish .noAudience h { roster := s.roster.placed h n q, coach := s.events.coach }
      else Desk.join s h { roster := s.roster.placed h n q, coach := s.events.coach } := by
    show Desk.enroll s h (a.asAdmitted owed) { roster := s.roster, coach := s.events.coach } = _
    unfold Desk.enroll
    dsimp only
    rw [he]
    rfl
  have hqq : q = { a with
      number := n, state := .queued, channel := none, owed := owed, audience := [], joined := []
      admitted := owed.length, reached := 0, withheld := 0, withdrawn := 0, left := a.budget, outcome := none
      granted := false } := by rw [← hq]; rfl
  by_cases ho : owed = []
  · rw [if_pos ho, Desk.finish_eq (hself q)] at hdesk
    have hput : (s.roster.placed h n q).put h (q.ended .noAudience) = s.roster.placed h n (q.ended .noAudience) := by
      simp [Roster.put, Roster.placed, Vector.set_set]
    rw [hput] at hdesk
    have hflag := Desk.Keeps.flag (fun _ => True) (k := .announceDone) (.inl rfl)
      { roster := s.roster, coach := s.events.coach }
    have hrt : ∀ g, t.roster.rec? g = ((s.roster.placed h n (q.ended .noAudience)).rec? g).map (Ann.depart t.ports) := by
      intro g; rw [ht.rec_desk, hdesk]
    refine ⟨n, h1, h2, ?_, fun _ => ⟨?_, ?_⟩, fun hno => absurd ho hno⟩
    · intro g hg
      rw [hrt, hrec _ g hg, Option.isSome_map]
      refine ⟨rfl, fun x y hx hy => ?_⟩
      rw [hx] at hy
      cases hy; exact .depart _ x
    · rw [← hqq]
      have hro := State.rosterOnly_of_keeps (f := fun env => Desk.enroll env h (a.asAdmitted owed))
        (by rw [hdesk]; exact hflag.coach) (by rw [hdesk]; exact hflag.sticky) ht
      rw [hdesk] at hro
      exact hro
    · rw [← hqq, hrt, hself]; rfl
  · rw [if_neg ho] at hdesk
    have hshape : q.Shaped := by rw [← hq]; exact Ann.shaped_asAdmitted owed a n
    obtain ⟨hj, hothers, -, -, hb⟩ := State.joins_of_settled (hself q) (by rw [hqq]) (hrec q)
      (fun x hx => by simp [Ann.onAir, hdone x hx]) (fun h' => h'.placed h n q) hshape hdesk ht
    refine ⟨n, h1, h2, hothers, fun hno => absurd hno ho, fun _ => ?_⟩
    rw [← hqq]
    exact ⟨hj, hb⟩

/-! ### The retire -/

/-- One record at a retire becomes `afterRetire`, and ANNOUNCE_DONE is set exactly if that makes it DONE (04 R79, R80). -/
theorem Desk.retireFrom_eq {d : Desk} {h : Handle} {a : Ann} {p : Port} (ha : d.roster.rec? h = some a)
    (hj : a.audience.erase p = [] → a.joined.erase p = []) :
    d.retireFrom p h =
      { roster := d.roster.put h (a.afterRetire p)
        coach := if (decide (a.state ≠ .done) && decide ((a.afterRetire p).state = .done)) = true then
            d.coach ||| CoachKind.announceDone.mark
          else d.coach } := by
  have hself : ({ d with roster := d.roster.put h (a.withdraw p) } : Desk).roster.rec? h = some (a.withdraw p) := by
    simp [Roster.rec_put]
  have hw : a.withdraw p = { a with
      owed := a.owed.erase p, audience := a.audience.erase p, joined := a.joined.erase p
      withdrawn := a.withdrawn + if p ∈ a.owed then 1 else 0 } := by
    simp [Ann.withdraw]
  have hwait : a.state = .queued ∨ a.state = .held ∨ a.state = .gap →
      (if a.owed.contains p && (a.withdraw p).owed.isEmpty then
          ({ d with roster := d.roster.put h (a.withdraw p) } : Desk).finish .complete h
        else { d with roster := d.roster.put h (a.withdraw p) }) =
      { roster := d.roster.put h (a.afterRetire p)
        coach := if (decide (a.state ≠ .done) && decide ((a.afterRetire p).state = .done)) = true then
            d.coach ||| CoachKind.announceDone.mark
          else d.coach } := by
    intro hs
    have hnp : a.state ≠ .playing := by rcases hs with h | h | h <;> simp [h]
    have hnd : a.state ≠ .done := by rcases hs with h | h | h <;> simp [h]
    unfold Ann.afterRetire
    rw [← hw]
    by_cases hc : p ∈ a.owed ∧ (a.withdraw p).owed = []
    · rw [if_pos (by simpa using hc), if_pos ⟨hs, hc⟩, Desk.finish_eq hself, Roster.put_put]
      simp [hnd, Ann.ended]
    · rw [if_neg (by simpa using hc), if_neg (fun h => hc h.2), if_neg (fun h => hnp h.1)]
      have : (a.withdraw p).state ≠ .done := hnd
      simp [this]
  unfold Desk.retireFrom
  rw [ha]
  dsimp only
  split
  · exact hwait (.inl ‹_›)
  · exact hwait (.inr (.inl ‹_›))
  · exact hwait (.inr (.inr ‹_›))
  · rename_i hs
    have hR : a.afterRetire p =
        if p ∈ a.audience ∧ (a.withdraw p).audience = [] then (a.withdraw p).afterPlayout [] else a.withdraw p := by
      unfold Ann.afterRetire
      rw [← hw]
      simp [hs]
    rw [hR]
    by_cases hc : p ∈ a.audience ∧ (a.withdraw p).audience = []
    · rw [if_pos (by simpa using hc), if_pos hc, Desk.account_eq hself, Roster.put_put,
        show (a.withdraw p).joined = [] from hj hc.2]
      simp [hs]
    · rw [if_neg (by simpa using hc), if_neg hc]
      simp [Ann.withdraw, hs]
  · rename_i hs
    unfold Ann.afterRetire
    rw [← hw, if_neg (by simp [hs]), if_neg (by simp [hs])]
    simp [Ann.withdraw, hs]
  · rename_i hs
    unfold Ann.afterRetire
    rw [← hw, if_neg (by simp [hs]), if_neg (by simp [hs])]
    simp [hs]

/-- The records of a list at a retire. -/
theorem Desk.retire_foldl {p : Port} (l : List Handle) (hl : l.Nodup) (d : Desk)
    (hj : ∀ h ∈ l, ∀ a ∈ d.roster.rec? h, a.audience.erase p = [] → a.joined.erase p = []) :
    let e := l.foldl (Desk.retireFrom p) d
    (∀ g : Handle, e.roster.rec? g = if g ∈ l then (d.roster.rec? g).map (Ann.afterRetire p) else d.roster.rec? g) ∧
      e.roster.order = d.roster.order ∧ e.roster.counter = d.roster.counter ∧
      e.coach =
        if (l.any fun h => (d.roster.rec? h).any fun a =>
            decide (a.state ≠ .done) && decide ((a.afterRetire p).state = .done)) = true then
          d.coach ||| CoachKind.announceDone.mark
        else d.coach := by
  induction l generalizing d with
  | nil => simp
  | cons h l ih =>
    obtain ⟨hn, hl⟩ := List.nodup_cons.1 hl
    have hstep : (∀ g : Handle, (d.retireFrom p h).roster.rec? g =
          if g = h then (d.roster.rec? g).map (Ann.afterRetire p) else d.roster.rec? g) ∧
        (d.retireFrom p h).roster.order = d.roster.order ∧ (d.retireFrom p h).roster.counter = d.roster.counter ∧
        (d.retireFrom p h).coach =
          if ((d.roster.rec? h).any fun a =>
              decide (a.state ≠ .done) && decide ((a.afterRetire p).state = .done)) = true then
            d.coach ||| CoachKind.announceDone.mark
          else d.coach := by
      cases ha : d.roster.rec? h with
      | none =>
        have e : d.retireFrom p h = d := by unfold Desk.retireFrom; rw [ha]
        rw [e]
        refine ⟨fun g => ?_, rfl, rfl, by simp⟩
        split
        · rename_i eg; rw [eg, ha]; rfl
        · rfl
      | some a =>
        rw [Desk.retireFrom_eq ha (hj h (List.mem_cons_self ..) a ha)]
        refine ⟨fun g => (Roster.rec_put _ _ _ _).trans ?_, rfl, rfl, rfl⟩
        split
        · rename_i eg; rw [eg, ha]; rfl
        · rfl
    obtain ⟨k1, k2, k3, k4⟩ := hstep
    have hrest : ∀ g ∈ l, (d.retireFrom p h).roster.rec? g = d.roster.rec? g := fun g hg => by
      rw [k1, if_neg (by rintro rfl; exact hn hg)]
    obtain ⟨h1, h2, h3, h4⟩ := ih hl (d.retireFrom p h) fun g hg a ha =>
      hj g (List.mem_cons_of_mem _ hg) a (hrest g hg ▸ ha)
    refine ⟨fun g => ?_, h2.trans k2, h3.trans k3, ?_⟩
    · rw [List.foldl_cons, h1, k1]
      by_cases eg : g = h
      · subst eg; simp [hn]
      · simp [eg]
    · rw [List.foldl_cons, h4, k4, List.any_cons]
      have hany : (l.any fun g => ((d.retireFrom p h).roster.rec? g).any fun a =>
            decide (a.state ≠ .done) && decide ((a.afterRetire p).state = .done)) =
          l.any fun g => (d.roster.rec? g).any fun a =>
            decide (a.state ≠ .done) && decide ((a.afterRetire p).state = .done) := by
        rw [Bool.eq_iff_iff, List.any_eq_true, List.any_eq_true]
        exact exists_congr fun g => and_congr_right fun hg => by rw [hrest g hg]
      rw [hany]
      generalize (l.any fun g => (d.roster.rec? g).any fun a =>
        decide (a.state ≠ .done) && decide ((a.afterRetire p).state = .done)) = x
      generalize ((d.roster.rec? h).any fun a =>
        decide (a.state ≠ .done) && decide ((a.afterRetire p).state = .done)) = y
      cases x <;> cases y <;> simp [BitVec.or_assoc]

/-- The retire at the Roster: every record becomes `afterRetire`, and the scan follows (01 R16). -/
theorem Desk.retire_eq (env : State) {p : Port} (d : Desk)
    (hj : ∀ h : Handle, ∀ a ∈ d.roster.rec? h, a.audience.erase p = [] → a.joined.erase p = []) :
    d.retire env p = (d.afterRetire p).scan env := by
  have hn : allHandles.Nodup := List.nodup_finRange 16
  have hm : ∀ h : Handle, h ∈ allHandles := List.mem_finRange
  unfold Desk.retire Desk.afterRetire
  generalize allHandles = l at hn hm
  obtain ⟨h1, h2, h3, h4⟩ := Desk.retire_foldl (p := p) l hn d fun h _ => hj h
  generalize l.foldl (Desk.retireFrom p) d = e at h1 h2 h3 h4
  have hrecs : e.roster.recs = d.roster.recs.map (Option.map (Ann.afterRetire p)) := by
    apply Vector.ext
    intro i hi
    have h5 := h1 ⟨i, hi⟩
    rw [if_pos (hm _)] at h5
    rw [Vector.getElem_map]
    exact h5
  congr 1
  rw [← hrecs, ← h4]
  show e = { roster := { recs := e.roster.recs, order := d.roster.order, counter := d.roster.counter }, coach := e.coach }
  rw [← h2, ← h3]

end Sys2Proof.Machine
end

