-- ==== Sys2Proof/Laws/Berths.lean ====
section
/-! SUPPORT. The Berth Table: what a change of slots is, when a walk starts, and what one claim does (spec/01 R4, R5; 05
R91). -/

namespace Sys2Proof.Machine

open Sys2Proof

/-! ### Changing slots -/

theorem slotImages_eq_iff (v w : Vector (Option Berth) 40) :
    slotImages v = slotImages w ↔ ∀ p : Port, v[p].map Berth.image = w[p].map Berth.image := by
  unfold slotImages allPorts
  constructor
  · intro h p
    exact (List.map_inj_left.1 h) p (List.mem_finRange p)
  · intro h
    exact List.map_inj_left.2 fun p _ => h p

/-- Where no image changes, no walk starts. -/
theorem State.putSlots_same {s : State} {v : Vector (Option Berth) 40}
    (h : ∀ p : Port, v[p].map Berth.image = s.slots[p].map Berth.image) : s.putSlots v = { s with slots := v } := by
  unfold State.putSlots
  rw [if_pos ((slotImages_eq_iff v s.slots).2 h)]

/-- Where some image changes, a walk starts. -/
theorem State.putSlots_changed {s : State} {v : Vector (Option Berth) 40} (p : Port)
    (h : v[p].map Berth.image ≠ s.slots[p].map Berth.image) :
    s.putSlots v = { s with slots := v, digest := s.digest.startWalk } := by
  unfold State.putSlots
  rw [if_neg fun e => h ((slotImages_eq_iff v s.slots).1 e p)]

theorem Vector.set_get_eq {α : Type} (v : Vector α 40) (p q : Port) (x : α) :
    (v.set p.val x)[q] = if q = p then x else v[q] := by
  simp only [Fin.getElem_fin, Vector.getElem_set, Fin.ext_iff, eq_comm]

/-- A change of one open berth. -/
theorem State.mapBerth_of_some {s : State} {p : Port} {b : Berth} (h : s.slots[p] = some b) (f : Berth → Berth) :
    s.mapBerth p f = s.putSlots (s.slots.set p.val (some (f b))) := by
  unfold State.mapBerth; rw [h]; rfl

/-- A change of a VACANT slot is dropped (01 R17). -/
theorem State.mapBerth_of_none {s : State} {p : Port} (h : s.slots[p] = none) (f : Berth → Berth) :
    s.mapBerth p f = s := by
  have key : s.slots.set p.val none = s.slots := by
    apply Vector.ext
    intro i hi
    rw [Vector.getElem_set]
    split
    · rename_i e; rw [← h]; simp only [Fin.getElem_fin, e]
    · rfl
  have e : s.mapBerth p f = s.putSlots (s.slots.set p.val (s.slots[p].map f)) := rfl
  rw [e, h, Option.map_none, key, State.putSlots_same (v := s.slots) fun _ => rfl]

/-- A change of every open berth by one function. -/
theorem State.mapBerths_const (s : State) (f : Berth → Berth) :
    s.mapBerths (fun _ => f) = s.putSlots (s.slots.map (Option.map f)) := by
  have e : (Vector.ofFn fun p : Port => s.slots[p].map f) = s.slots.map (Option.map f) := by
    apply Vector.ext
    intro i hi
    simp
  unfold State.mapBerths
  rw [e]

/-- What a slot holds after a change of one berth. -/
theorem State.mapBerth_slots_get (s : State) (p q : Port) (f : Berth → Berth) :
    (s.mapBerth p f).slots[q] = if q = p then s.slots[p].map f else s.slots[q] :=
  Vector.set_get_eq s.slots p q _

/-- What a slot holds after a change of every berth. -/
theorem State.mapBerths_slots_get (s : State) (q : Port) (f : Port → Berth → Berth) :
    (s.mapBerths f).slots[q] = s.slots[q].map (f q) := by
  unfold State.mapBerths State.putSlots; simp

/-! ### Claims -/

/-- A claim that changes a field advances the generation by one. -/
theorem Image.advance_of_ne {old new : Image} (h : { new with generation := old.generation } ≠ old) :
    old.advance new = { new with generation := old.generation + 1 } := by
  unfold Image.advance; simp [h]

/-- A claim that changes no field is no change. -/
theorem Image.advance_of_eq {old new : Image} (h : { new with generation := old.generation } = old) :
    old.advance new = old := by
  unfold Image.advance; simp [h]

@[simp] theorem Berth.claim_button (a : AlertState) (l : Reload) (act : Bool) (f : Image → Image) (b : Berth) :
    (b.claim a l act f).button = b.button := rfl

@[simp] theorem Berth.claim_ramp (a : AlertState) (l : Reload) (act : Bool) (f : Image → Image) (b : Berth) :
    (b.claim a l act f).ramp = b.ramp := rfl

theorem Berth.claim_image (a : AlertState) (l : Reload) (act : Bool) (f : Image → Image) (b : Berth) :
    (b.claim a l act f).image = b.image.advance (f b.image) := rfl

/-- Every field of a claim but the generation is the one the claim gives. -/
theorem Image.advance_field {α : Type} (f : Image → α) (hf : ∀ i g, f { i with generation := g } = f i)
    (old new : Image) : f (old.advance new) = f new := by
  unfold Image.advance
  dsimp only
  split
  · rename_i h; rw [← h]; exact hf _ _
  · rw [hf, hf]

@[simp] theorem Image.advance_ref (old new : Image) : (old.advance new).ref = new.ref :=
  Image.advance_field Image.ref (fun _ _ => rfl) old new

@[simp] theorem Image.advance_state (old new : Image) : (old.advance new).state = new.state :=
  Image.advance_field Image.state (fun _ _ => rfl) old new

@[simp] theorem Image.advance_idle (old new : Image) : (old.advance new).idle = new.idle :=
  Image.advance_field Image.idle (fun _ _ => rfl) old new

@[simp] theorem Image.advance_wake (old new : Image) : (old.advance new).wake = new.wake :=
  Image.advance_field Image.wake (fun _ _ => rfl) old new

@[simp] theorem Image.advance_stop (old new : Image) : (old.advance new).stop = new.stop :=
  Image.advance_field Image.stop (fun _ _ => rfl) old new

@[simp] theorem Image.advance_runs (a : AlertState) (old new : Image) : (old.advance new).runs a = new.runs a := by
  unfold Image.runs; rw [Image.advance_state, Image.advance_idle]

/-- The timer law of R91: after a claim it is RUNNING exactly while the run condition holds, if it was before. -/
theorem nextTimer_isSome {before after act : Bool} {l : Reload} {t : Option Reload} (h : t.isSome = before) :
    (nextTimer before after act l t).isSome = after := by
  unfold nextTimer; cases before <;> cases after <;> cases act <;> simp_all

/-- A claim that leaves a lawful berth's record as it is leaves the berth as it is. -/
theorem Berth.claim_same {m : QuietMode} {al : AlertState} {b : Berth} (hb : b.Lawful m al) (l : Reload)
    {f : Image → Image} (hf : f b.image = b.image) : b.claim al l false f = b := by
  have e : b.image.advance (f b.image) = b.image := Image.advance_of_eq (by rw [hf])
  have ht := hb.timer
  unfold Berth.claim
  dsimp only
  rw [e]
  have : nextTimer (b.image.runs al) (b.image.runs al) false l b.timer = b.timer := by
    unfold nextTimer
    cases hx : b.image.runs al with
    | true => simp
    | false => rw [hx] at ht; simp; cases h : b.timer <;> simp_all
  rw [this]

/-- A WAKING berth is not idle (05 R90). -/
theorem Berth.Lawful.not_idle {m : QuietMode} {al : AlertState} {b : Berth} (hb : b.Lawful m al)
    (hw : b.image.state = .waking) : b.image.idle = false := by
  by_contra h
  have := (hb.idle (by simpa using h)).1
  rw [hw] at this
  cases this

/-- The end of a ringing call of a lawful berth: AWAKE, the ramp stopped, the timer loaded while CLEAR (06 R99, R103). -/
theorem Berth.endRinging_eq {m : QuietMode} {al : AlertState} {b : Berth} (hb : b.Lawful m al)
    (hw : b.image.state = .waking) (l : Reload) (act : Bool) (w : WakeStatus) :
    b.endRinging al l act w =
      { image := { b.image with wake := w, state := .awake, generation := b.image.generation + 1 }
        timer := if al = .clear then some l else none
        button := b.button
        ramp := none } := by
  have hi := hb.not_idle hw
  have e : b.image.advance (Image.endRinging w b.image) =
      { b.image with wake := w, state := .awake, generation := b.image.generation + 1 } := by
    have : Image.endRinging w b.image = { b.image with wake := w, state := .awake } := by
      unfold Image.endRinging; simp only [← hi]
    rw [this]
    apply Image.advance_of_ne
    intro e
    have := congrArg Image.state e
    simp [hw] at this
  unfold Berth.endRinging Berth.claim
  dsimp only
  rw [e]
  congr 1
  unfold nextTimer Image.runs
  cases al <;> simp [hw, hi]

/-! ### Every berth -/

/-- Two changes that agree on every open berth make the same table. -/
theorem Vector.map_option_congr {v : Vector (Option Berth) 40} {f g : Berth → Berth}
    (h : ∀ p : Port, ∀ b, v[p] = some b → f b = g b) : v.map (Option.map f) = v.map (Option.map g) := by
  apply Vector.ext
  intro i hi
  rw [Vector.getElem_map, Vector.getElem_map]
  cases hb : v[i] with
  | none => rfl
  | some b => simp only [Option.map_some]; rw [h ⟨i, hi⟩ b hb]

/-- A test of the record in a slot is a test of the slot. -/
theorem State.image_any (s : State) (p : Port) (f : Image → Bool) :
    (s.image p).any f = (s.slots[p]).any fun b => f b.image := by
  unfold State.image; cases s.slots[p] <;> rfl

end Sys2Proof.Machine
end

