-- ==== Sys2Proof/Laws/Lawful.lean ====
section
/-! SUPPORT. The laws of Safety as decidable conjunctions, so that a concrete state's lawfulness is settled by
evaluation. -/

namespace Sys2Proof.Machine

open Sys2Proof

theorem Berth.lawful_iff (mode : QuietMode) (alert : AlertState) (b : Berth) :
    b.Lawful mode alert ↔
      (b.image.state = .waking ↔ b.image.wake.ringing = true) ∧ (b.ramp.isSome = true ↔ b.image.state = .waking) ∧
        (b.image.idle = true → b.image.state = .awake ∧ mode = .day) ∧
        (b.button = .idle ∨ b.image.state ≠ .waking) ∧ b.timer.isSome = b.image.runs alert :=
  ⟨fun h => ⟨h.waking, h.ramp, h.idle, h.button, h.timer⟩, fun ⟨a, b, c, d, e⟩ => ⟨a, b, c, d, e⟩⟩

theorem Ann.members_iff (s : State) (a : Ann) :
    a.Members s ↔
      a.owed.Nodup ∧ a.audience.Nodup ∧ a.joined.Nodup ∧ (∀ p ∈ a.owed, s.isOpen p = true) ∧
        (∀ p ∈ a.audience, p ∈ a.owed) ∧ ∀ p ∈ a.joined, p ∈ a.audience :=
  ⟨fun h => ⟨h.owed, h.audience, h.joined, h.isOpen, h.drawn, h.heard⟩, fun ⟨a, b, c, d, e, f⟩ => ⟨a, b, c, d, e, f⟩⟩

theorem Ann.shaped_iff (a : Ann) :
    a.Shaped ↔
      a.channel.isSome = a.onAir ∧ (a.audience = [] ∨ a.onAir = true) ∧ (a.joined = [] ∨ a.state = .playing) ∧
        (a.outcome.isSome = true ↔ a.state = .done) :=
  ⟨fun h => ⟨h.channel, h.audience, h.joined, h.outcome⟩, fun ⟨a, b, c, d⟩ => ⟨a, b, c, d⟩⟩

theorem Roster.lawful_iff (r : Roster) :
    r.Lawful ↔ (∀ h : Handle, ∀ a ∈ r.rec? h, a.Shaped) ∧ r.Exclusive ∧ r.Ordered ∧ r.AlertSlot :=
  ⟨fun h => ⟨h.shaped, h.exclusive, h.ordered, h.alertSlot⟩, fun ⟨a, b, c, d⟩ => ⟨a, b, c, d⟩⟩

theorem PortRec.lawful_iff (sense : Bool) (r : PortRec) :
    r.Lawful sense ↔
      (r.state = .empty ↔ sense = false) ∧
        (r.switch = .closed ↔ (r.state = .linking ∨ r.state = .active ∨ r.poweringUp = true)) ∧
        (r.cause.isSome = true ↔ r.state = .fault) ∧ r.timerFits = true ∧
        (r.state = .active ∨ (r.desired = none ∧ r.lastSent = none ∧ r.acked = none)) :=
  ⟨fun h => ⟨h.sense, h.switch, h.cause, h.timer, h.delivery⟩, fun ⟨a, b, c, d, e⟩ => ⟨a, b, c, d, e⟩⟩

theorem State.portsLawful_iff (s : State) :
    s.PortsLawful ↔
      (∀ p : Port, s.ports[p].Lawful s.senses.presence[p]) ∧
        (∀ t ∈ s.lower.turn, s.TurnLawful .lower t) ∧ ∀ t ∈ s.upper.turn, s.TurnLawful .upper t :=
  ⟨fun h => ⟨h.ports, h.turns .lower, h.turns .upper⟩, fun ⟨a, b, c⟩ => ⟨a, fun | .lower => b | .upper => c⟩⟩

theorem Feed.lawful_iff (f : Feed) :
    f.Lawful ↔ (f.desc.isSome = true ↔ f.state ≠ .absent) ∧ (f.timer.isSome = true ↔ f.state = .active) :=
  ⟨fun h => ⟨h.desc, h.timer⟩, fun ⟨a, b⟩ => ⟨a, b⟩⟩

end Sys2Proof.Machine
end

