-- ==== Sys2Proof/Laws/PerInstr.lean ====
section
/-! SUPPORT. Per command: a request's code names it (spec/13 R181), so that the request a well-formed command carries is
read back as that command. One lemma per constructor of Instr. -/

namespace Sys2Proof.Laws.CarriedBy

open Sys2Proof

/-- The code and items a request carries name that request, of all the rows of the table. -/
def Statement (c : Instr) : Prop :=
  c.wf = true → ∀ (code : Byte) (items : List Item), requestParts c = some (code, items) →
    requestOfCode code items = some c

theorem powerOnReset (pins : Pins) : Statement (.powerOnReset pins) := by
  intro _ _ _ h; cases h

theorem badRequest (frame : List Byte) : Statement (.badRequest frame) := by
  intro _ _ _ h; cases h

theorem responseRead (clocked : Nat) : Statement (.responseRead clocked) := by
  intro _ _ _ h; cases h

theorem openBerth (items : List Item) : Statement (.openBerth items) := by
  intro _ _ _ h; cases h; rfl

theorem amendBerth (items : List Item) : Statement (.amendBerth items) := by
  intro _ _ _ h; cases h; rfl

theorem retireBerth (items : List Item) : Statement (.retireBerth items) := by
  intro _ _ _ h; cases h; rfl

theorem lookupBerth (items : List Item) : Statement (.lookupBerth items) := by
  intro _ _ _ h; cases h; rfl

theorem findOccupant (items : List Item) : Statement (.findOccupant items) := by
  intro _ _ _ h; cases h; rfl

theorem listOccupied (items : List Item) : Statement (.listOccupied items) := by
  intro _ _ _ h; cases h; rfl

theorem announce (items : List Item) : Statement (.announce items) := by
  intro _ _ _ h; cases h; rfl

theorem endAnnounce (items : List Item) : Statement (.endAnnounce items) := by
  intro _ _ _ h; cases h; rfl

theorem cancelAnnounce (items : List Item) : Statement (.cancelAnnounce items) := by
  intro _ _ _ h; cases h; rfl

theorem releaseAnnounce (items : List Item) : Statement (.releaseAnnounce items) := by
  intro _ _ _ h; cases h; rfl

theorem lookupAnnounce (items : List Item) : Statement (.lookupAnnounce items) := by
  intro _ _ _ h; cases h; rfl

theorem listAnnounce (items : List Item) : Statement (.listAnnounce items) := by
  intro _ _ _ h; cases h; rfl

theorem setPolicy (items : List Item) : Statement (.setPolicy items) := by
  intro _ _ _ h; cases h; rfl

theorem readPolicy (items : List Item) : Statement (.readPolicy items) := by
  intro _ _ _ h; cases h; rfl

theorem setQuiet (items : List Item) : Statement (.setQuiet items) := by
  intro _ _ _ h; cases h; rfl

theorem lightsOut (items : List Item) : Statement (.lightsOut items) := by
  intro _ _ _ h; cases h; rfl

theorem routeProgressApproach (items : List Item) : Statement (.routeProgressApproach items) := by
  intro hw _ _ h; cases h
  simp only [Instr.wf, Bool.and_eq_true, decide_eq_true_eq] at hw
  simp [requestOfCode, hw.2]

theorem routeProgressArrive (items : List Item) : Statement (.routeProgressArrive items) := by
  intro hw _ _ h; cases h
  simp only [Instr.wf, Bool.and_eq_true, decide_eq_true_eq] at hw
  simp [requestOfCode, hw.2]

theorem routeProgressDepart (items : List Item) : Statement (.routeProgressDepart items) := by
  intro hw _ _ h; cases h
  simp only [Instr.wf, Bool.and_eq_true, decide_eq_true_eq] at hw
  simp [requestOfCode, hw.2]

theorem setWakeProfile (items : List Item) : Statement (.setWakeProfile items) := by
  intro _ _ _ h; cases h; rfl

theorem readWakeProfile (items : List Item) : Statement (.readWakeProfile items) := by
  intro _ _ _ h; cases h; rfl

theorem wakeCancel (items : List Item) : Statement (.wakeCancel items) := by
  intro _ _ _ h; cases h; rfl

theorem setButtonWindow (items : List Item) : Statement (.setButtonWindow items) := by
  intro _ _ _ h; cases h; rfl

theorem callNext (items : List Item) : Statement (.callNext items) := by
  intro _ _ _ h; cases h; rfl

theorem callList (items : List Item) : Statement (.callList items) := by
  intro _ _ _ h; cases h; rfl

theorem callAttend (items : List Item) : Statement (.callAttend items) := by
  intro _ _ _ h; cases h; rfl

theorem callClose (items : List Item) : Statement (.callClose items) := by
  intro _ _ _ h; cases h; rfl

theorem alertRaise (items : List Item) : Statement (.alertRaise items) := by
  intro _ _ _ h; cases h; rfl

theorem alertClear (items : List Item) : Statement (.alertClear items) := by
  intro _ _ _ h; cases h; rfl

theorem resume (items : List Item) : Statement (.resume items) := by
  intro _ _ _ h; cases h; rfl

theorem setAlertConfig (items : List Item) : Statement (.setAlertConfig items) := by
  intro _ _ _ h; cases h; rfl

theorem readAlert (items : List Item) : Statement (.readAlert items) := by
  intro _ _ _ h; cases h; rfl

theorem portPower (items : List Item) : Statement (.portPower items) := by
  intro _ _ _ h; cases h; rfl

theorem portConfig (items : List Item) : Statement (.portConfig items) := by
  intro _ _ _ h; cases h; rfl

theorem portQuery (items : List Item) : Statement (.portQuery items) := by
  intro _ _ _ h; cases h; rfl

theorem setPortTiming (items : List Item) : Statement (.setPortTiming items) := by
  intro _ _ _ h; cases h; rfl

theorem setPollMode (items : List Item) : Statement (.setPollMode items) := by
  intro _ _ _ h; cases h; rfl

theorem setPollTimeout (items : List Item) : Statement (.setPollTimeout items) := by
  intro _ _ _ h; cases h; rfl

theorem readPoll (items : List Item) : Statement (.readPoll items) := by
  intro _ _ _ h; cases h; rfl

theorem configureFeed (items : List Item) : Statement (.configureFeed items) := by
  intro _ _ _ h; cases h; rfl

theorem unconfigureFeed (items : List Item) : Statement (.unconfigureFeed items) := by
  intro _ _ _ h; cases h; rfl

theorem feedQuery (items : List Item) : Statement (.feedQuery items) := by
  intro _ _ _ h; cases h; rfl

theorem setFeedStall (items : List Item) : Statement (.setFeedStall items) := by
  intro _ _ _ h; cases h; rfl

theorem partReset (items : List Item) : Statement (.partReset items) := by
  intro _ _ _ h; cases h; rfl

theorem tripReset (items : List Item) : Statement (.tripReset items) := by
  intro _ _ _ h; cases h; rfl

theorem setEventEnables (items : List Item) : Statement (.setEventEnables items) := by
  intro _ _ _ h; cases h; rfl

theorem readSummary (items : List Item) : Statement (.readSummary items) := by
  intro _ _ _ h; cases h; rfl

theorem readBerthEvents (items : List Item) : Statement (.readBerthEvents items) := by
  intro _ _ _ h; cases h; rfl

theorem ackBerthEvents (items : List Item) : Statement (.ackBerthEvents items) := by
  intro _ _ _ h; cases h; rfl

theorem ackCoachEvents (items : List Item) : Statement (.ackCoachEvents items) := by
  intro _ _ _ h; cases h; rfl

theorem setDigest (items : List Item) : Statement (.setDigest items) := by
  intro _ _ _ h; cases h; rfl

theorem readDigest (items : List Item) : Statement (.readDigest items) := by
  intro _ _ _ h; cases h; rfl

theorem response (deck : Deck) (late : Bool) (frame : List Byte) : Statement (.response deck late frame) := by
  intro _ _ _ h; cases h

theorem responseTimerExpiry (expiry : Expiry Deck) : Statement (.responseTimerExpiry expiry) := by
  intro _ _ _ h; cases h

theorem presenceRise (port : Port) : Statement (.presenceRise port) := by
  intro _ _ _ h; cases h

theorem presenceFall (port : Port) : Statement (.presenceFall port) := by
  intro _ _ _ h; cases h

theorem powerFault (port : Port) (asserted : Bool) : Statement (.powerFault port asserted) := by
  intro _ _ _ h; cases h

theorem powerGood (port : Port) : Statement (.powerGood port) := by
  intro _ _ _ h; cases h

theorem powerGoodTimerExpiry (expiry : Expiry Port) : Statement (.powerGoodTimerExpiry expiry) := by
  intro _ _ _ h; cases h

theorem dischargeEnd (expiry : Expiry Port) : Statement (.dischargeEnd expiry) := by
  intro _ _ _ h; cases h

theorem linkTimerExpiry (expiry : Expiry Port) : Statement (.linkTimerExpiry expiry) := by
  intro _ _ _ h; cases h

theorem alertInEdge (level : Level) : Statement (.alertInEdge level) := by
  intro _ _ _ h; cases h

theorem inactivityExpiry (expiry : Expiry Port) : Statement (.inactivityExpiry expiry) := by
  intro _ _ _ h; cases h

theorem windowExpiry (expiry : Expiry Port) : Statement (.windowExpiry expiry) := by
  intro _ _ _ h; cases h

theorem stepBoundary (expiry : Expiry Port) : Statement (.stepBoundary expiry) := by
  intro _ _ _ h; cases h

theorem stage1Expiry (expiry : Expiry Port) : Statement (.stage1Expiry expiry) := by
  intro _ _ _ h; cases h

theorem stage2Expiry (expiry : Expiry Port) : Statement (.stage2Expiry expiry) := by
  intro _ _ _ h; cases h

theorem leadInEnd (expiry : Expiry Handle) : Statement (.leadInEnd expiry) := by
  intro _ _ _ h; cases h

theorem durationExpiry (expiry : Expiry Handle) : Statement (.durationExpiry expiry) := by
  intro _ _ _ h; cases h

theorem gapExpiry (expiry : Expiry Handle) : Statement (.gapExpiry expiry) := by
  intro _ _ _ h; cases h

theorem stallTimerExpiry (expiry : Expiry FeedIx) : Statement (.stallTimerExpiry expiry) := by
  intro _ _ _ h; cases h

theorem dataFrame (bytes : List Byte) : Statement (.dataFrame bytes) := by
  intro _ _ _ h; cases h

theorem endFrame (bytes : List Byte) : Statement (.endFrame bytes) := by
  intro _ _ _ h; cases h

theorem walkComplete : Statement .walkComplete := by
  intro _ _ _ h; cases h

theorem coachClockTick : Statement (.coachClockTick) := by
  intro _ _ _ h; cases h

end Sys2Proof.Laws.CarriedBy
end

