-- ==== Sys2Proof/Tests/Slice0.lean ====
section
/-! SUPPORT. The author's tests: ill-formed commands refused, frames read by hand, a step or two of the commands, and for
every statement with hypotheses a state and operands that meet them, clause by clause. -/

namespace Sys2Proof.Tests

set_option Elab.async false

open Sys2Proof Sys2Proof.Machine

/-! ### Small states -/

def item (k : Nat) (v : List Byte) : Item := ⟨BitVec.ofNat 8 k, v⟩

def image (st : BerthState) (w : WakeStatus) : Image :=
  { ref := 7, generation := 255#8, state := st, idle := false, program := some 11, language := 15, volume := 12
    ceiling := none, locked := { program := false, language := false, volume := false }, lamp := .auto
    stop := some 63, lead := some 90, wake := w }

def load : Reload := ⟨20, .minutes⟩

def awake : Berth := { image := image .awake .armed, timer := some load, button := .idle, ramp := none }

def night : Berth := { image := image .night .armed, timer := none, button := .idle, ramp := none }

def idleAwake : Berth := { awake with image := { image .awake .armed with idle := true }, timer := none }

def ringing (w : WakeStatus) : Berth :=
  { image := image .waking w, timer := none, button := .idle, ramp := some { gain := 4, stepMs := 1000, answerS := 90 } }

def withBerth (p : Port) (b : Berth) (s : State) : State := { s with slots := s.slots.set p.val (some b) }

def withPort (p : Port) (r : PortRec) (s : State) : State := { s with ports := s.ports.set p.val r }

def withAnn (h : Handle) (a : Ann) (s : State) : State :=
  { s with roster := { recs := s.roster.recs.set h.val (some a), order := s.roster.order ++ [h]
                       counter := s.roster.counter + 1 } }

def withAlert (st : AlertState) (s : State) : State := s.alertTo st

def portIn (p : Port) (st : PortState) (sw : Switch) : PortRec := { PortRec.atReset p with state := st, switch := sw }

def activePort (p : Port) : PortRec :=
  { portIn p .active .closed with identity := some ⟨.screenAudio, 1⟩, baseline := some 15#4, lastTaken := some 15#4 }

/-- What port 39 presents while it hears an announcement channel. -/
def heard (c : Channel) : Presentation := { video := none, audio := .announce c, gain := 12, screen := .on, lamp := .blink }

/-- Port 39, ACTIVE, whose unit has acknowledged it. -/
def hearing (c : Channel) : PortRec :=
  { activePort 39 with
    desired := some (heard c), lastSent := some ⟨255, heard c⟩, acked := some ⟨255, heard c⟩ }

def ann (st : AnnState) (c : Option Channel) : Ann :=
  { tag := 65535, cls := .stop, source := .n1, target := .all, stop := some 63, language := none, leadIn := 8
    chime := true, duration := 120, budget := 3, gap := 60, number := 0#32, state := st, channel := c, owed := [39]
    audience := if c.isSome then [39] else [], joined := if st = .playing then [39] else [], admitted := 1, reached := 0
    withheld := 0, withdrawn := 0, left := 3, outcome := if st = .done then some .complete else none
    granted := c.isSome }

/-- One AWAKE berth at port 39. -/
def one : State := withBerth 39 awake State.reset

/-- One berth ringing at port 39, with its call. -/
def rings (w : WakeStatus) : State :=
  { withBerth 39 (ringing w) State.reset with
    calls := [{ port := 39, passenger := false, wake := true, state := .pending, raised := 0#32 }] }

/-- A record in slot 14. -/
def aired (st : AnnState) (c : Option Channel) : State := withAnn 14 (ann st c) one

/-! ### Ill-formed commands -/

theorem test_wf_value_too_long : (Instr.listOccupied [item 1 (List.replicate 256 0#8)]).wf = false := by decide +kernel

theorem test_wf_items_too_long : (Instr.announce [item 1 (List.replicate 196 0#8)]).wf = false := by decide +kernel

theorem test_wf_items_fit : (Instr.announce [item 1 (List.replicate 195 0#8)]).wf = true := by decide +kernel

theorem test_wf_bad_request_that_parses : (Instr.badRequest (requestFrame 0x15#8 [])).wf = false := by decide +kernel

theorem test_wf_bad_request_that_reads : (Instr.badRequest [0#8]).wf = false := by decide +kernel

theorem test_wf_route_rows :
    (Instr.routeProgressApproach [item 1 [1#8]]).wf = false ∧ (Instr.routeProgressArrive [item 1 [2#8]]).wf = false ∧
      (Instr.routeProgressDepart [item 1 [0#8]]).wf = false := by decide +kernel

theorem test_wf_frame_kinds :
    (Instr.dataFrame (feedFrameBytes ⟨13, .endOfItem, []⟩)).wf = false ∧
      (Instr.endFrame (feedFrameBytes ⟨0, .data, [1#8]⟩)).wf = false := by decide +kernel

/-! ### Frames -/

/-- The check value of the CRC-16 of R182. -/
theorem test_crc_check_value :
    frameCrc [0x31#8, 0x32#8, 0x33#8, 0x34#8, 0x35#8, 0x36#8, 0x37#8, 0x38#8, 0x39#8] = 0x29B1#16 := by decide +kernel

/-- OPEN_BERTH of port 39 for reference 7, written out: code, length 12, header check, two items. -/
theorem test_request_write :
    commandOfTransfer [0x10#8, 0x0A#8, 0xE5#8, 1#8, 1#8, 39#8, 2#8, 2#8, 0#8, 7#8] =
      .openBerth [item 1 [39#8], item 2 [0#8, 7#8]] := by decide +kernel

/-- A header check that is off by one, a length that is wrong, an item past the end, and an unknown code. -/
theorem test_bad_requests :
    [[0x15#8, 3#8, 0xE6#8], [0x15#8, 4#8, 0xE6#8], [0x15#8, 5#8, 0xE5#8, 1#8, 1#8], [0x16#8, 3#8, 0xE6#8], []].all
      isBadRequest = true := by decide +kernel

theorem test_response_read : commandOfTransfer [0#8, 0#8, 0#8] = .responseRead 2 := by decide +kernel

/-- An Identify answer of port 39 is read back; one for another port, or of the other kind, is not good. -/
def answer39 : UnitReport :=
  { fault := false, identity := some ⟨.screenAudio, 1⟩, version := none, headphones := true, presses := 15#4
    number := 0#4, requests := [] }

theorem test_identify_answer :
    readReport .identify 39 (reportFrame .identify 39 0#8 answer39) = some answer39 ∧
      readReport .identify 38 (reportFrame .identify 39 0#8 answer39) = none ∧
      readReport .normal 39 (reportFrame .identify 39 0#8 answer39) = none := by decide +kernel

theorem test_feed_frame :
    readFeedFrame (feedFrameBytes ⟨13, .data, [1#8, 2#8]⟩) = some ⟨13, .data, [1#8, 2#8]⟩ ∧
      readFeedFrame (0xC2#8 :: (feedFrameBytes ⟨13, .data, [1#8, 2#8]⟩).tail) = none := by decide +kernel

/-! ### Steps -/

/-- The reply of the state an answer holds, if it is a next state. -/
def replyOf (o : Answer) : Option Reply :=
  match o with
  | .next t => t.reply
  | .fault _ => none
  | .refused _ => none

/-- A field of the state an answer holds. -/
def after {α : Type} (o : Answer) (f : State → α) : Option α :=
  match o with
  | .next t => some (f t)
  | .fault _ => none
  | .refused _ => none

theorem test_step_idle : step State.reset = .next State.reset := rfl

theorem test_step_takes_front :
    after (step { State.reset with pending := [.coachClockTick, .walkComplete] }) (fun t => (t.clock, t.pending)) =
      some (1#32, [.walkComplete]) := by decide +kernel

/-- The walk of an empty table feeds 40 vacant markers. -/
theorem test_walk_of_reset :
    after (exec .walkComplete State.reset) (fun t => (t.digest.settled, t.events.attn)) =
      some (crcUp 0x1021#16 (List.replicate 40 0#8), true) := by decide +kernel

def openItems : List Item := [item 1 [39#8], item 2 [0#8, 7#8], item 9 [63#8], item 10 [90#8]]

theorem test_open_berth :
    replyOf (exec (.openBerth openItems) State.reset) =
      some { code := 0x10#8, status := .ok
             data := [[1#8, 0#8, 7#8, 0#8, 0#8, 0#8, 0xFF#8, 0#8, 12#8, 0xFF#8, 0#8, 0#8, 63#8, 90#8, 1#8]] } := by
  decide +kernel

theorem test_open_berth_duplicate :
    (replyOf (exec (.openBerth [item 1 [0#8], item 2 [0#8, 7#8]]) one)).map Reply.status = some .duplicate := by
  decide +kernel

theorem test_amend_berth_wraps_generation :
    after (exec (.amendBerth [item 1 [39#8], item 5 [31#8]]) one)
      (fun t => (t.image 39).map fun i => (i.generation, i.volume)) = some (some (0#8, 31)) := by decide +kernel

theorem test_amend_berth_stale :
    replyOf (exec (.amendBerth [item 1 [39#8], item 2 [0#8], item 5 [31#8]]) one) =
      some { code := 0x11#8, status := .stale, data := [[255#8]] } := by decide +kernel

theorem test_retire_withdraws :
    after (exec (.retireBerth [item 1 [39#8]]) (aired .queued none))
      (fun t => (t.slots[(39 : Port)], (t.roster.rec? 14).map fun a => (a.state, a.withdrawn, a.owed))) =
      some (none, some (.done, 1, [])) := by decide +kernel

def announceItems (source : Byte) : List Item :=
  [item 1 [0#8, 9#8], item 2 [1#8], item 3 [source], item 4 [0#8], item 7 [2#8, 1#8], item 8 [10#8], item 9 [0#8],
    item 10 [5#8]]

/-- Slot 0, number 0, one berth owed, granted at once. -/
theorem test_announce :
    replyOf (exec (.announce (announceItems 0#8)) one) =
      some { code := 0x20#8, status := .ok, data := [[0#8], [0#8, 0#8, 0#8, 0#8], [1#8], [1#8]] } := by decide +kernel

theorem test_announce_no_audience :
    replyOf (exec (.announce (announceItems 0#8)) State.reset) =
      some { code := 0x20#8, status := .ok, data := [[0#8], [0#8, 0#8, 0#8, 0#8], [0#8], [5#8]] } := by decide +kernel

/-- N1 is held by the playing record of slot 14, which the DRIVER announcement preempts. -/
theorem test_announce_preempts :
    after (exec (.announce (announceItems 2#8)) (aired .playing (some 3)))
      (fun t => ((t.roster.rec? 0).map fun a => (a.state, a.channel), (t.roster.rec? 14).map Ann.state)) =
      some (some (.leadIn, some 0), some .held) := by decide +kernel

theorem test_duration_expiry_reaches :
    after (exec (.durationExpiry ⟨14, false⟩) (withPort 39 (hearing 3) (aired .playing (some 3))))
      (fun t => (t.roster.rec? 14).map fun a => (a.state, a.reached, a.outcome)) =
      some (some (.done, 1, some .complete)) := by decide +kernel

theorem test_end_announce_in_lead_in :
    after (exec (.endAnnounce [item 1 [14#8]]) (aired .leadIn (some 3)))
      (fun t => (t.roster.rec? 14).map fun a => (a.state, a.left)) = some (some (.gap, 2)) := by decide +kernel

theorem test_lights_out :
    replyOf (exec (.lightsOut []) { one with quiet := .quiet }) =
      some { code := 0x33#8, status := .ok, data := [[1#8]] } := by decide +kernel

theorem test_lights_out_by_day :
    (replyOf (exec (.lightsOut []) one)).map Reply.status = some .wrongMode := by decide +kernel

theorem test_inactivity_in_quiet :
    after (exec (.inactivityExpiry ⟨39, false⟩) { one with quiet := .quiet }) (fun t => (t.image 39).map Image.state) =
      some (some .night) := by decide +kernel

theorem test_approach_starts_ringing :
    after (exec (.routeProgressApproach [item 1 [0#8], item 2 [63#8], item 3 [90#8]]) one)
      (fun t => (t.slots[(39 : Port)].map fun b => (b.image.wake, b.image.state, b.ramp.isSome, b.timer.isSome))) =
      some (some (.ringing1, .waking, true, false)) := by decide +kernel

theorem test_approach_too_early :
    after (exec (.routeProgressApproach [item 1 [0#8], item 2 [63#8], item 3 [91#8]]) one) (fun t => t.image 39) =
      some (one.image 39) := by decide +kernel

theorem test_depart_flags :
    after (exec (.routeProgressDepart [item 1 [2#8], item 2 [63#8]]) (rings .ringing2))
      (fun t => (t.ports[(39 : Port)].flags, t.calls.length, (t.image 39).map Image.wake)) =
      some (0b1010000000#10, 1, some .unanswered) := by decide +kernel

theorem test_stage1_raises_call :
    after (exec (.stage1Expiry ⟨39, false⟩) { rings .ringing1 with calls := [] })
      (fun t => (t.calls.map fun c => (c.port, c.wake), t.ports[(39 : Port)].flag .callRaised)) =
      some ([(39, true)], true) := by decide +kernel

theorem test_step_boundary :
    after (exec (.stepBoundary ⟨39, false⟩) (rings .ringing1)) (fun t => t.slots[(39 : Port)].bind Berth.ramp) =
      some (some { gain := 5, stepMs := 1000, answerS := 90 }) := by decide +kernel

theorem test_call_attend_then_close :
    after (exec (.callAttend [item 1 [39#8]]) (rings .ringing1)) (fun t => t.calls.map Call.state) = some [.attended] ∧
      after (exec (.callClose [item 1 [39#8]]) (rings .ringing1)) (fun t => t.calls.length) = some 0 := by decide +kernel

/-- Two presses in one Response: armed, then the double press, which puts the berth to NIGHT. -/
theorem test_double_press :
    ((one.presses 39 2).image 39).map (fun i => (i.state, i.generation)) = some (.night, 0#8) ∧
      newPresses (some 14#4) 2#4 = 3 := by decide +kernel

theorem test_passenger_clamped :
    (one.passenger 39 3#8 31#8).1 = .clamped ∧ ((one.passenger 39 3#8 31#8).2.image 39).map Image.volume = some 28 ∧
      (one.passenger 39 1#8 11#8).1 = .unavailable ∧ (one.passenger 0 1#8 11#8).1 = .vacant ∧
      (one.passenger 39 4#8 2#8).1 = .invalid := by decide +kernel

theorem test_alert_raise :
    replyOf (exec (.alertRaise []) one) =
      some { code := 0x60#8, status := .ok
             data := [[1#8], [0#8], [1#8], [0#8, 0#8, 0#8, 0#8], [1#8]] } := by decide +kernel

theorem test_alert_edge :
    after (exec (.alertInEdge .low) one) (fun t => (t.alert.state, t.events.flag .alert, t.events.attn)) =
      some (.active, true, true) ∧
      after (exec (.alertInEdge .high) { one with alert := { one.alert with level := .low } })
        (fun t => t.alert.state) = some .clear := by decide +kernel

theorem test_presence_powers_port :
    after (exec (.presenceRise 39) State.reset)
      (fun t => (t.ports[(39 : Port)].state, t.ports[(39 : Port)].command, t.ports[(39 : Port)].flags)) =
      some (.powering, some .powerOn, 1#10) := by decide +kernel

/-- POWERING with the POWER_ON in flight. -/
def powering : State :=
  { withPort 39 { portIn 39 .powering .closed with command := some .powerOn, timer := some (.powerGood 100) }
      State.reset with
    senses := { State.reset.senses with presence := State.reset.senses.presence.set 39 true } }

/-- Power good makes the port LINKING, and the idle poller of deck U sends it an Identify Poll. -/
theorem test_power_good_starts_turn :
    after (exec (.powerGood 39) powering)
      (fun t => (t.ports[(39 : Port)].state, t.upper.turn.map Turn.port, t.upper.poll.map Poll.bytes)) =
      some (.linking, some 39, some (sealFrame [1#8, 39#8])) := by decide +kernel

/-- LINKING with an Identify turn in flight. -/
def linking : State :=
  { withPort 39 { portIn 39 .linking .closed with timer := some (.link 2000) } powering with
    upper := { State.reset.upper with
      turn := some { port := 39, kind := .identify, timerMs := 2, discarded := false } } }

/-- The Identify answer makes the port ACTIVE; the next turn carries the vacant presentation as version 1. -/
theorem test_identify_makes_active :
    after (exec (.response .upper false (reportFrame .identify 39 0#8 answer39)) linking)
      (fun t => (t.ports[(39 : Port)].state, t.ports[(39 : Port)].lastSent.map Versioned.version,
        t.upper.turn.map Turn.kind)) =
      some (.active, some 1, some .normal) := by decide +kernel

theorem test_response_timer_on_active_port :
    after (exec (.responseTimerExpiry ⟨.upper, false⟩)
      { withPort 39 { activePort 39 with misses := 2 } linking with
        upper := { State.reset.upper with
          turn := some { port := 39, kind := .normal, timerMs := 2, discarded := false } } })
      (fun t => (t.ports[(39 : Port)].state, t.ports[(39 : Port)].cause, t.upper.turn)) =
      some (.fault, some .link, none) := by decide +kernel

/-- An expiry that a Response taken first has overtaken leaves the turn that followed it (R158), and one that a DATA frame
has overtaken is no stall (R169). -/
theorem test_late_expiries :
    exec (.responseTimerExpiry ⟨.upper, true⟩) linking = .next linking ∧
      exec (.stallTimerExpiry ⟨13, true⟩) State.reset = .next State.reset := ⟨rfl, rfl⟩

theorem test_power_fault :
    after (exec (.powerFault 39 true) linking)
      (fun t => (t.ports[(39 : Port)].state, t.ports[(39 : Port)].cause, t.upper.turn.map Turn.discarded)) =
      some (.fault, some .power, some true) := by decide +kernel

theorem test_crew_limit :
    (replyOf (exec (.portConfig [item 1 [4#8], item 4 [1#8]])
      (([0, 1, 2, 3] : List Port).foldl (fun s p => withPort p { PortRec.atReset p with crew := true } s)
        State.reset))).map Reply.status = some .badParam := by decide +kernel

theorem test_feed_data :
    after (exec (.dataFrame (feedFrameBytes ⟨0, .data, [7#8]⟩))
      { State.reset with feeds := State.reset.feeds.set 0 { Feed.atReset with state := .stalled } })
      (fun t => (t.feeds[(0 : FeedIx)].state, t.events.flag .feedResumed, t.media.map MediaOut.payload)) =
      some (.active, true, some [7#8]) := by decide +kernel

theorem test_response_read_consumes :
    after (exec (.responseRead 4) { State.reset with reply := some { code := 0x33#8, status := .wrongMode, data := [] } })
      (fun t => (t.miso, t.reply)) = some ([0x5A#8, 0x33#8, 14#8, 0#8], none) := by decide +kernel

theorem test_trip_reset_refused :
    (replyOf (exec (.tripReset []) (withAlert .released one))).map Reply.status = some .alertActive := by decide +kernel

theorem test_part_reset_reads_senses :
    after (exec (.partReset []) powering) (fun t => (t.ports[(39 : Port)].state, t.slots[(39 : Port)], t.reply)) =
      some (.powering, none, none) := by decide +kernel

/-! ### Witnesses: states and operands that meet each statement's hypotheses -/

theorem test_witness_StepTakesFrontCommand :
    ({ State.reset with pending := [.coachClockTick, .walkComplete] } : State).pending =
      .coachClockTick :: [.walkComplete] ∧ State.reset.pending = [] := ⟨rfl, rfl⟩

theorem test_witness_RequestsAreAnswered :
    requestParts (.readDigest []) = some (0x98#8, []) ∧ (0x98#8 : Byte) ≠ 0x90#8 := by decide +kernel

/-- One unknown field is enough, for every request. -/
theorem test_witness_MalformedRequestsRefused :
    let bad := [item 99 []]
    openParams bad = none ∧ amendParams bad = none ∧ retireParams bad = none ∧ onePort bad = none ∧
      findParams bad = none ∧ announceParams bad = none ∧ oneHandle bad = none ∧ policyParams bad = none ∧
      quietParams bad = none ∧ routeParams bad = none ∧ profileParams bad = none ∧ windowParams bad = none ∧
      callListParams bad = none ∧ alertParams bad = none ∧ powerParams bad = none ∧ configParams bad = none ∧
      timingParams bad = none ∧ pollModeParams bad = none ∧ pollTimeoutParams bad = none ∧ readPollParams bad = none ∧
      feedParams bad = none ∧ oneFeed bad = none ∧ feedQueryParams bad = none ∧ stallParams bad = none ∧
      enableParams bad = none ∧ ackBerthParams bad = none ∧ ackCoachParams bad = none ∧ digestParams bad = none ∧
      bad ≠ [] := by decide +kernel

/-- A state in which the invariants hold and a step is taken. -/
def queued : State := { State.reset with pending := [.presenceRise 39] }

/-- The step is taken: CoherentKept, RefsAndCallsKept, BerthsLawfulKept, BalanceKept, MembersKept, RosterLawfulKept,
PortsLawfulKept and FeedsProfilesDigestKept. -/
theorem test_witness_kept_step : ∃ t, step queued = .next t := ⟨_, rfl⟩

theorem test_witness_CoherentKept : queued.Coherent := by
  unfold State.Coherent
  refine ⟨by decide +kernel, fun h a ha => ?_, by decide +kernel⟩
  have hnone : ∀ h : Handle, queued.roster.rec? h = none := by decide +kernel
  rw [Option.mem_def, hnone] at ha
  cases ha

theorem test_witness_RefsAndCallsKept : queued.RefsDistinct ∧ queued.CallsLawful := by
  unfold State.RefsDistinct State.CallsLawful; decide +kernel

theorem test_witness_BerthsLawfulKept : queued.BerthsLawful := by
  simp only [State.BerthsLawful, Berth.lawful_iff]; decide +kernel

theorem test_witness_BalanceKept : queued.Balanced := by unfold State.Balanced Ann.Balanced; decide +kernel

theorem test_witness_MembersKept : queued.MembersLawful := by
  simp only [State.MembersLawful, Ann.members_iff]; decide +kernel

theorem test_witness_RosterLawfulKept : queued.roster.Lawful ∧ queued.roster.Served := by
  simp only [Roster.lawful_iff, Ann.shaped_iff, Roster.Exclusive, Roster.Ordered, Roster.AlertSlot, Roster.Served,
    Roster.LowestFree, Roster.SourceFree]
  and_intros <;> decide +kernel

theorem test_witness_PortsLawfulKept : queued.PortsLawful := by
  simp only [State.portsLawful_iff, PortRec.lawful_iff, State.TurnLawful]; decide +kernel

theorem test_witness_FeedsProfilesDigestKept : queued.FeedsLawful ∧ queued.ProfilesLawful ∧ queued.DigestLawful := by
  refine ⟨?_, ?_, ?_⟩
  · simp only [State.FeedsLawful, Feed.lawful_iff]; decide +kernel
  · unfold State.ProfilesLawful; decide +kernel
  · show _ ∧ _; decide

theorem test_witness_RequestFrameRoundTrip :
    requestParts (.openBerth openItems) = some (0x10#8, openItems) ∧ (Instr.openBerth openItems).wf = true := by
  decide +kernel

theorem test_witness_OpenBerth :
    ∃ q, openParams openItems = some q ∧ one.isOpen q.port = true ∧ State.reset.slots[q.port] = none ∧
      (∀ p : Port, ∀ b ∈ State.reset.slots[p], b.image.ref ≠ q.ref) ∧
      (withBerth 0 awake State.reset).slots[q.port] = none ∧
      ∃ b ∈ (withBerth 0 awake State.reset).slots[(0 : Port)], b.image.ref = q.ref :=
  ⟨_, rfl, by decide +kernel, by decide +kernel, by decide +kernel, by decide +kernel, awake, rfl, rfl⟩

/-- The berth is lawful: AmendBerth, QuietRequests, InactivityExpires, RouteProgress, WakeCancel. -/
theorem test_witness_lawful_berth : one.BerthsLawful := by
  simp only [State.BerthsLawful, Berth.lawful_iff]; decide +kernel

/-- The ringing berth is lawful: RouteProgress, WakeCancel, RampTimers, Presses. -/
theorem test_witness_lawful_ringing : (rings .ringing1).BerthsLawful ∧ (rings .ringing2).BerthsLawful := by
  simp only [State.BerthsLawful, Berth.lawful_iff]; decide +kernel

def amendItems (g : Byte) : List Item := [item 1 [39#8], item 2 [g], item 9 [1#8]]

theorem test_witness_AmendBerth :
    (∃ q, amendParams (amendItems 0#8) = some q ∧ State.reset.slots[q.port] = none ∧ one.slots[q.port] = some awake ∧
      ∃ g ∈ q.expected, g ≠ awake.image.generation) ∧
    ∃ q, amendParams (amendItems 255#8) = some q ∧ (∀ g ∈ q.expected, g = awake.image.generation) ∧
      q.changes.namesWake = true ∧ (rings .ringing1).slots[q.port] = some (ringing .ringing1) ∧
      (ringing .ringing1).image.wake = .ringing1 ∧ one.slots[q.port] = some awake ∧
      ¬(q.changes.namesWake = true ∧ (awake.image.wake = .ringing1 ∨ awake.image.wake = .ringing2)) :=
  ⟨⟨_, rfl, rfl, rfl, 0#8, rfl, by decide⟩,
    ⟨_, rfl, by decide, rfl, rfl, rfl, rfl, by decide⟩⟩

theorem test_witness_RetireBerth :
    (∃ q, retireParams [item 1 [39#8], item 2 [0#8]] = some q ∧ State.reset.slots[q.port] = none ∧
      one.slots[q.port] = some awake ∧ ∃ g ∈ q.expected, g ≠ awake.image.generation) ∧
    ∃ q, retireParams [item 1 [39#8], item 2 [255#8]] = some q ∧ one.slots[q.port] = some awake ∧
      ∀ g ∈ q.expected, g = awake.image.generation :=
  ⟨⟨_, rfl, rfl, rfl, 0#8, rfl, by decide⟩, ⟨_, rfl, rfl, by decide⟩⟩

theorem test_witness_RetireBerth_members : (aired .playing (some 3)).MembersLawful := by
  simp only [State.MembersLawful, Ann.members_iff]; decide +kernel

theorem test_witness_RecordReads :
    onePort [item 1 [40#8]] = none ∧ onePort [item 1 [39#8]] = some 39 ∧ findParams [item 1 [0#8, 0#8]] = none ∧
      findParams [item 1 [0#8, 7#8]] = some 7 ∧ (∀ p : Port, ∀ b ∈ State.reset.slots[p], b.image.ref ≠ 7) ∧
      one.slots[(39 : Port)] = some awake ∧ awake.image.ref = 7 ∧ oneHandle [item 1 [16#8]] = none ∧
      oneHandle [item 1 [14#8]] = some 14 ∧ one.roster.rec? 14 = none ∧
      (aired .playing (some 3)).roster.rec? 14 = some (ann .playing (some 3)) := by decide +kernel

theorem test_witness_RecordReads_refs : one.RefsDistinct := by unfold State.RefsDistinct; decide +kernel

theorem test_witness_ClaimAdvancesGeneration :
    (∀ g, { awake.image.toNight with generation := g } ≠ { awake.image with generation := g }) ∧
      (∃ g, { awake.image with generation := g } = { awake.image with generation := g }) ∧
      (awake.claim .clear load false Image.toNight).image.runs .clear = false ∧
      (night.claim .clear load true Image.active).image.runs .clear = true ∧ night.image.runs .clear = false ∧
      (awake.claim .clear load false id).image.runs .clear = true ∧ awake.image.runs .clear = true ∧
      (∀ p : Port, one.slots[p].map Berth.image = one.slots[p].map Berth.image) ∧
      one.slots[(39 : Port)].map Berth.image ≠ State.reset.slots[(39 : Port)].map Berth.image :=
  ⟨fun g h => by simpa [awake, image, Image.toNight] using congrArg Image.state h, ⟨0#8, rfl⟩, by decide, by decide,
    by decide, by decide, by decide, fun _ => rfl, by decide +kernel⟩

theorem test_witness_PassengerRequests :
    State.reset.slots[(39 : Port)] = none ∧ one.slots[(39 : Port)] = some awake ∧
      ((0#8 : Byte) ≠ 1#8 ∧ (0#8 : Byte) ≠ 2#8 ∧ (0#8 : Byte) ≠ 3#8 ∧ (0#8 : Byte) ≠ 4#8) ∧ 12 ≤ (12#8 : Byte).toNat ∧
      12 ≤ (254#8 : Byte).toNat ∧ 16 ≤ (16#8 : Byte).toNat ∧ 32 ≤ (32#8 : Byte).toNat ∧ 2 ≤ (2#8 : Byte).toNat := by
  decide +kernel

/-- A state whose port 39 is ACTIVE. -/
def onActive (b : Berth) (s : State) : State := withPort 39 (activePort 39) (withBerth 39 b s)

theorem test_witness_PresentationCases :
    State.reset.ports[(39 : Port)].state ≠ .active ∧
      (withPort 39 (activePort 39) State.reset).ports[(39 : Port)].state = .active ∧
      (withPort 39 (activePort 39) State.reset).slots[(39 : Port)] = none ∧
      (onActive awake State.reset).slots[(39 : Port)] = some awake ∧
      (onActive awake State.reset).roster.current 39 = none ∧ (onActive awake State.reset).alert.state = .clear ∧
      (withAlert .released (onActive awake State.reset)).alert.state ≠ .clear ∧
      (ringing .ringing1).image.state = .waking ∧ night.image.state = .night ∧ awake.image.state = .awake ∧
      (aired .playing (some 3)).roster.current 39 = some (ann .playing (some 3), 3) := by decide +kernel

/-- A waiting SAFETY record over the playing one. -/
def safetyAnn : Ann := { ann .queued none with cls := .safety }

def contested : Roster := (withAnn 15 safetyAnn (aired .playing (some 3))).roster

/-- The law of the Roster holds with a record on the air, and the wait list is served: CurrentAnnouncement, Announce,
AllocatorRules, PlayoutEnds, GapEnds, AlertEntry, FeedRequests, FeedFrames. -/
theorem test_witness_lawful_roster :
    (aired .playing (some 3)).roster.Lawful ∧ (aired .playing (some 3)).roster.Served ∧
      (aired .gap none).roster.Lawful ∧ (aired .gap none).roster.Served ∧ contested.Lawful := by
  simp only [Roster.lawful_iff, Ann.shaped_iff, Roster.Exclusive, Roster.Ordered, Roster.AlertSlot, Roster.Served,
    Roster.LowestFree, Roster.SourceFree]
  and_intros <;> decide +kernel

theorem test_witness_CurrentAnnouncement :
    (aired .playing (some 3)).roster.current 39 = some (ann .playing (some 3), 3) := by decide +kernel

theorem test_witness_GainRows :
    (ringing .ringing2).ramp = some { gain := 4, stepMs := 1000, answerS := 90 } ∧ awake.ramp = none ∧
      Audio.silent ≠ .wake ∧ (onActive awake State.reset).slots[(39 : Port)] = some awake ∧
      ∃ d, (withAlert .active (onActive { awake with image := { awake.image with ceiling := some 0 } }
          State.reset)).resolve 39 = some d ∧ 0 < d.gain := by
  refine ⟨rfl, rfl, by decide, by decide +kernel, ?_⟩
  exact ⟨{ video := none, audio := .silent, gain := 28, screen := .on, lamp := .blink }, by decide +kernel, by decide⟩

theorem test_witness_LampRule :
    (onActive awake State.reset).ports[(39 : Port)].state = .active ∧
      (onActive awake State.reset).slots[(39 : Port)] = some awake ∧
      ((onActive awake State.reset).resolve 39).map Presentation.lamp = some .off := by decide +kernel

theorem test_witness_NoProgramDuringAlert :
    (withAlert .released (onActive awake State.reset)).alert.state ≠ .clear ∧
      ((withAlert .released (onActive awake State.reset)).resolve 39).isSome = true := by decide +kernel

theorem test_witness_DirectiveRule :
    (hearing 3).desired = some (heard 3) ∧ (hearing 3).acked = some ⟨255, heard 3⟩ ∧
      (∀ v ∈ ({ hearing 3 with acked := none } : PortRec).acked, v.pres ≠ heard 3) ∧
      ({ hearing 3 with acked := none } : PortRec).lastSent = some ⟨255, heard 3⟩ ∧
      (∀ v ∈ ({ hearing 3 with acked := none, lastSent := some ⟨255, heard 2⟩ } : PortRec).lastSent,
        v.pres ≠ heard 3) := by decide +kernel

theorem test_witness_AcknowledgementRule :
    (hearing 3).lastSent = some ⟨255, heard 3⟩ ∧ some 255 = some (⟨255, heard 3⟩ : Versioned).version ∧
      (activePort 39).lastSent = none ∧ (1 : Nat) ≠ 255 := by decide +kernel

/-- Slots 0..14 taken. -/
def full : State := (List.finRange 15).foldl (fun s h => withAnn ⟨h.val, by omega⟩ (ann .done none) s) one

theorem test_witness_Announce :
    (∃ q, announceParams (announceItems 0#8) = some q ∧ q.target.judge = some .all) ∧
    (∃ q, announceParams ((announceItems 0#8).set 3 (item 4 [1#8, 0#8])) = some q ∧ q.target.judge = none) ∧
    (∀ h : Handle, h.val < 15 → full.roster.rec? h ≠ none) ∧
    (∀ g : Handle, g.val < 14 → ({ full with roster := full.roster.free 14 } : State).roster.rec? g ≠ none) ∧
    ({ full with roster := full.roster.free 14 } : State).roster.rec? 14 = none :=
  ⟨⟨_, rfl, rfl⟩, ⟨_, rfl, rfl⟩, by decide +kernel, by decide +kernel, by decide +kernel⟩

/-- The counter has returned to the number a record in slot 14 holds (R50). -/
def counterHeld : State :=
  { one with roster := { (withAnn 14 { ann .queued none with number := 0xFFFFFFFF#32 } one).roster with
      counter := 0xFFFFFFFF#32 } }

/-- Announce and AlertEntry: a number that another record holds is passed over, and the counter goes round (R50). -/
theorem test_admission_passes_held_number :
    (∃ b ∈ counterHeld.roster.rec? 14, b.number = counterHeld.roster.counter) ∧ counterHeld.roster.rec? 0 = none ∧
      after (exec (.announce (announceItems 0#8)) counterHeld)
        (fun t => ((t.roster.rec? 0).map Ann.number, t.roster.counter)) = some (some 0#32, 1#32) := by
  decide +kernel

/-- EndAnnounce, CancelAndRelease, PlayoutEnds, GapEnds and LeadIn: a record of slot 14 in each state. -/
theorem test_witness_announcement_states :
    oneHandle [item 1 [14#8]] = some 14 ∧ State.reset.roster.rec? 14 = none ∧
      (aired .queued none).roster.rec? 14 = some (ann .queued none) ∧
      (aired .leadIn (some 3)).roster.rec? 14 = some (ann .leadIn (some 3)) ∧
      (aired .playing (some 3)).roster.rec? 14 = some (ann .playing (some 3)) ∧
      (aired .gap none).roster.rec? 14 = some (ann .gap none) ∧
      (aired .done none).roster.rec? 14 = some (ann .done none) ∧ (ann .leadIn (some 3)).audience ≠ [] ∧
      (ann .leadIn (some 3)).channel = some 3 ∧
      ({ ann .leadIn (some 3) with audience := [] } : Ann).joined = [] := by decide +kernel

theorem test_witness_GapEnds : (ann .gap none).Shaped := by
  rw [Ann.shaped_iff]; decide

/-- Slot 15 holds no PLAYING, LEAD_IN or GAP record, and slot 14 none in the state asked for: PlayoutEnds, GapEnds, LeadIn. -/
theorem test_witness_no_timer :
    (∀ a ∈ (aired .playing (some 3)).roster.rec? 15, a.state ≠ .playing) ∧
      (∀ a ∈ (aired .playing (some 3)).roster.rec? 14, a.state ≠ .gap ∧ a.state ≠ .leadIn) ∧
      ∀ a ∈ (aired .gap none).roster.rec? 14, a.state ≠ .playing := by decide +kernel

/-- The record of slot 14 plays from feed N1, which is ACTIVE. -/
def fed : State :=
  { aired .playing (some 3) with
    feeds := State.reset.feeds.set 13
      { state := .active, desc := some { kind := .audioOnly, languages := [0] }, timer := some 500 } }

theorem test_witness_PlayoutEnds :
    fed.roster.rec? 14 = some (ann .playing (some 3)) ∧ (ann .playing (some 3)).source.feed = some 13 ∧
      fed.feeds[(13 : FeedIx)].state = .active ∧
      readFeedFrame (feedFrameBytes ⟨13, .endOfItem, []⟩) = some ⟨13, .endOfItem, []⟩ ∧
      fed.feeds[(13 : FeedIx)].timer.isSome = true := by decide +kernel

/-- A SERVICE record waits in slot 13 for the source that slot 14 holds. -/
def outranked : Roster := (withAnn 13 { ann .queued none with cls := .service } (aired .playing (some 3))).roster

theorem test_witness_AllocatorRules :
    contested.rec? 15 = some safetyAnn ∧ safetyAnn.state = .queued ∧ safetyAnn.waits = true ∧
      contested.rec? 14 = some (ann .playing (some 3)) ∧ (ann .playing (some 3)).onAir = true ∧
      (ann .queued none).source.exclusive = true ∧ (ann .playing (some 3)).source = safetyAnn.source ∧
      contested.victim 15 = some 14 ∧ contested.Outranks 15 14 ∧
      (∀ g : Handle, g ≠ 15 → ∀ b ∈ contested.rec? g, b.waits = false) :=
  ⟨by decide +kernel, rfl, rfl, by decide +kernel, by decide, by decide, rfl, by decide +kernel,
    ⟨_, _, rfl, rfl, .inl (by decide)⟩, by decide +kernel⟩

/-- The three cases of a join after its scan: granted by it, waiting with a victim, waiting with none. -/
theorem test_witness_AllocatorRules_join :
    (∀ b ∈ (Desk.scan one { roster := (aired .queued none).roster, coach := 0#8 }).roster.rec? 14, b.waits = false) ∧
      (Desk.scan one { roster := contested, coach := 0#8 }).roster.rec? 15 = some safetyAnn ∧
      (Desk.scan one { roster := contested, coach := 0#8 }).roster.victim 15 = some 14 ∧
      (Desk.scan one { roster := outranked, coach := 0#8 }).roster.rec? 13 =
        some { ann .queued none with cls := .service } ∧
      (Desk.scan one { roster := outranked, coach := 0#8 }).roster.victim 13 = none := by decide +kernel

/-- A record that waits for a TONE, so that its victim is the lowest-ranked record on the air: none here. -/
theorem test_witness_AllocatorRules_lowest :
    (withAnn 13 { ann .queued none with source := .chime } one).roster.rec? 13 =
        some { ann .queued none with source := .chime } ∧
      Source.chime.exclusive = false ∧
      (withAnn 13 { ann .queued none with source := .chime } one).roster.victim 13 = none := by decide +kernel

theorem test_witness_SetPolicy : (policyParams [item 8 [1#8]]).isSome = true := by decide +kernel

theorem test_witness_QuietRequests :
    quietParams [item 1 [2#8]] = none ∧ quietParams [item 1 [1#8]] = some .quiet ∧
      quietParams [item 1 [0#8]] = some .day ∧ (withAlert .released one).alert.state ≠ .clear ∧
      one.alert.state = .clear ∧ one.quiet = .day ∧ ({ one with quiet := .quiet } : State).quiet = .quiet := by
  decide +kernel

theorem test_witness_InactivityExpires :
    (∀ b ∈ State.reset.slots[(39 : Port)], b.timer = none) ∧ one.slots[(39 : Port)] = some awake ∧
      awake.timer.isSome = true ∧ one.quiet = .day ∧ ({ one with quiet := .quiet } : State).quiet = .quiet := by
  decide +kernel

theorem test_witness_RouteProgress :
    routeParams [item 1 [0#8], item 2 [63#8], item 3 [255#8]] = some { kind := .approach, stop := 63, minutes := 255 } ∧
      routeParams [item 1 [1#8], item 2 [1#8]] = some { kind := .arrive, stop := 1, minutes := 0 } ∧
      routeParams [item 1 [2#8], item 2 [63#8]] = some { kind := .depart, stop := 63, minutes := 0 } := by decide +kernel

theorem test_witness_WakeProfiles :
    (∃ c, profileParams [item 1 [31#8]] = some c ∧
      ¬(c.startGain.getD State.reset.wake.pending.startGain ≤ c.stage1Gain.getD State.reset.wake.pending.stage1Gain)) ∧
    (∃ c, profileParams [item 1 [16#8]] = some c ∧
      c.startGain.getD State.reset.wake.pending.startGain ≤ c.stage1Gain.getD State.reset.wake.pending.stage1Gain ∧
      c.stage1Gain.getD State.reset.wake.pending.stage1Gain ≤ c.stage2Gain.getD State.reset.wake.pending.stage2Gain) ∧
    (ringing .ringing1).ramp.isSome = true ∧ (rings .ringing1).slots[(39 : Port)] = some (ringing .ringing1) ∧
    ∀ q : Port, ∀ b ∈ one.slots[q], b.ramp = none :=
  ⟨⟨_, rfl, by decide⟩, ⟨_, rfl, by decide, by decide⟩, rfl, by decide +kernel, by decide +kernel⟩

theorem test_witness_WakeCancel :
    onePort [item 1 [40#8]] = none ∧ onePort [item 1 [39#8]] = some 39 ∧ State.reset.slots[(39 : Port)] = none ∧
      (withBerth 39 { awake with image := image .awake .answered } State.reset).slots[(39 : Port)] =
        some { awake with image := image .awake .answered } ∧
      one.slots[(39 : Port)] = some awake ∧ awake.image.wake = .armed ∧
      (rings .ringing2).slots[(39 : Port)] = some (ringing .ringing2) := by decide +kernel

theorem test_witness_RampTimers :
    (∀ b ∈ one.slots[(39 : Port)], b.ramp = none) ∧
    (rings .ringing1).slots[(39 : Port)] = some (ringing .ringing1) ∧
      (ringing .ringing1).ramp = some { gain := 4, stepMs := 1000, answerS := 90 } ∧
      (ringing .ringing1).image.wake = .ringing1 ∧ (ringing .ringing2).image.wake = .ringing2 := by decide +kernel

/-- A berth whose double-press window runs. -/
def pressed : State := withBerth 39 { awake with button := .armed 200 } State.reset

theorem test_witness_CallRaises :
    one.callOf 39 = none ∧
      (rings .ringing1).callOf 39 =
        some { port := 39, passenger := false, wake := true, state := .pending, raised := 0#32 } ∧
      pressed.slots[(39 : Port)] = some { awake with button := .armed 200 } ∧
      ∀ b ∈ one.slots[(39 : Port)], b.button = .idle := by decide +kernel

theorem test_witness_CallRequests :
    windowParams [item 1 [3#8, 0xE8#8]] = some 1000 ∧ callListParams [item 1 [40#8]] = none ∧
      callListParams [item 1 [39#8]] = some 39 ∧ callListParams [] = some 0 ∧ (∀ c ∈ one.calls, c.state ≠ .pending) ∧
      (rings .ringing1).calls =
        [] ++ { port := 39, passenger := false, wake := true, state := .pending, raised := 0#32 } :: [] ∧
      onePort [item 1 [40#8]] = none ∧ onePort [item 1 [39#8]] = some 39 ∧ (∀ c ∈ one.calls, c.port ≠ 39) := by
  decide +kernel

theorem test_witness_CallRequests_lawful : (rings .ringing1).CallsLawful := by unfold State.CallsLawful; decide +kernel

theorem test_witness_Presses :
    State.reset.slots[(39 : Port)] = none ∧ (rings .ringing1).slots[(39 : Port)] = some (ringing .ringing1) ∧
      one.slots[(39 : Port)] = some awake ∧ awake.image.state ≠ .waking ∧ awake.button = .idle ∧
      (∀ c ∈ one.calls, c.port ≠ 39) ∧
      pressed.slots[(39 : Port)] = some { awake with button := .armed 200 } ∧ pressed.alert.state = .clear ∧
      (withAlert .active pressed).alert.state ≠ .clear ∧
      ∃ c ∈ ({ one with calls := (rings .ringing1).calls } : State).calls, c.port = 39 :=
  ⟨by decide +kernel, by decide +kernel, by decide +kernel, by decide, rfl, by decide +kernel, by decide +kernel,
    by decide +kernel, by decide +kernel, _, List.mem_cons_self, rfl⟩

theorem test_witness_AlertEntry :
    (withAlert .active one).alert.state = .active ∧ one.alert.state ≠ .active ∧ Level.high = one.alert.level ∧
      Level.low ≠ one.alert.level ∧ one.alert.config.edge = .falling ∧
      (withAlert .released one).alert.state ≠ .active := by decide +kernel

/-- The alert is RELEASED and slot 15 holds a SAFETY record, LIVE or DONE. -/
def slot15 (st : AnnState) (c : Option Channel) : State :=
  withAlert .released (withAnn 15 { ann st c with cls := .safety } one)

/-- An edge selection in force, and the level of ALERT_IN. -/
def selecting (e : EdgeSelection) (l : Level) : State :=
  { one with alert := { one.alert with config := { one.alert.config with edge := e }, level := l } }

/-- AlertEntry: slot 15 live, DONE and FREE where the alert may be entered. -/
theorem test_witness_AlertEntry_slot15 :
    (slot15 .playing (some 3)).alert.state ≠ .active ∧ (slot15 .done none).alert.state ≠ .active ∧
      (∃ a, (slot15 .playing (some 3)).roster.rec? alertSlot = some a ∧ a.state ≠ .done) ∧
      (∃ a, (slot15 .done none).roster.rec? alertSlot = some a ∧ a.state = .done) ∧
      one.roster.rec? alertSlot = none :=
  ⟨by decide +kernel, by decide +kernel, ⟨_, rfl, by decide⟩, ⟨_, rfl, by decide⟩, by decide +kernel⟩

/-- AlertEntry: ALERT_RAISE over a live slot 15 keeps its number and re-arms it, and over a DONE one admits a fresh record. -/
theorem test_alert_over_slot15 :
    after (exec (.alertRaise []) (slot15 .playing (some 3))) (fun t => (t.roster.counter, (t.roster.rec? 15).any fun a =>
        decide (a.state = .playing) && decide (a.left = 3) && a.owed == [39] && a.number == 0#32)) =
      some (1#32, true) ∧
    after (exec (.alertRaise []) (slot15 .done none)) (fun t => (t.roster.counter, (t.roster.rec? 15).any fun a =>
        decide (a.state = .leadIn) && a.owed == [39] && a.number == 1#32)) =
      some (2#32, true) := by decide +kernel

/-- AlertEntry: each edge selection and each level it selects, and those it does not. -/
theorem test_witness_AlertEntry_edges :
    ∀ (e : EdgeSelection) (l : Level),
      (selecting e l).alert.config.edge = e ∧ (selecting e l).alert.level = l ∧ (selecting e l).alert.state ≠ .active ∧
        ∃ k : Level, k ≠ l := by
  intro e l
  refine ⟨rfl, rfl, by show one.alert.state ≠ _; decide, ?_⟩
  cases l
  · exact ⟨.high, by decide⟩
  · exact ⟨.low, by decide⟩

/-- RISING is met by the high level alone, BOTH by either, NONE by neither. -/
theorem test_alert_edges_selected :
    after (exec (.alertInEdge .high) (selecting .rising .low)) (fun t => t.alert.state) = some .active ∧
      after (exec (.alertInEdge .low) (selecting .rising .high)) (fun t => t.alert.state) = some .clear ∧
      after (exec (.alertInEdge .high) (selecting .both .low)) (fun t => t.alert.state) = some .active ∧
      after (exec (.alertInEdge .low) (selecting .both .high)) (fun t => t.alert.state) = some .active ∧
      after (exec (.alertInEdge .low) (selecting .none .high)) (fun t => t.alert.state) = some .clear := by
  decide +kernel

theorem test_witness_AlertRequests :
    (withAlert .active one).alert.state = .active ∧ one.alert.state = .clear ∧
      (withAlert .released one).alert.state = .released ∧
      (∃ c, alertParams [item 2 [0#8]] = some c ∧ c.source.getD one.alert.config.source = .mic ∧
        0 < c.budget.getD one.alert.config.budget) ∧
      ∃ c, alertParams [item 2 [0#8], item 3 [0#8]] = some c ∧
        ¬(c.source.getD one.alert.config.source = .mic ∧ 0 < c.budget.getD one.alert.config.budget) :=
  ⟨by decide +kernel, by decide +kernel, by decide +kernel, ⟨_, rfl, by decide, by decide⟩, ⟨_, rfl, by decide⟩⟩

def poweringOff : PortRec :=
  { portIn 39 .powering .opened with command := some .powerOff, timer := some (.discharge 20) }

theorem test_witness_PortPower :
    (∃ q, powerParams [item 1 [39#8], item 2 [0#8]] = some q ∧ q.value = .on ∧ q.port = 39) ∧
    (∃ q, powerParams [item 1 [39#8], item 2 [1#8]] = some q ∧ q.value = .off ∧ q.port = 39) ∧
    powering.ports[(39 : Port)].command.isSome = true ∧ State.reset.ports[(39 : Port)].command = none ∧
    State.reset.ports[(39 : Port)].state = .empty ∧ (portIn 39 .present .opened).command = none ∧
    (portIn 39 .present .opened).state = .present ∧ (portIn 39 .fault .opened).state = .fault ∧
    linking.ports[(39 : Port)].state = .linking ∧ linking.ports[(39 : Port)].command = none ∧
    (activePort 39).state = .active ∧ State.reset.senses.fault[(39 : Port)] = false ∧
    (State.reset.senseFault 39 true).senses.fault[(39 : Port)] = true :=
  ⟨⟨_, rfl, rfl, rfl⟩, ⟨_, rfl, rfl, rfl⟩, by decide +kernel⟩

theorem test_witness_PortSettings :
    (configParams [item 1 [39#8], item 4 [1#8]]).isSome = true ∧ onePort [item 1 [39#8]] = some 39 ∧
      State.reset.ports[(39 : Port)].timer = none ∧ powering.ports[(39 : Port)].timer = some (.powerGood 100) ∧
      (timingParams [item 1 [1#8, 0x90#8], item 2 [8#8]]).isSome = true := by decide +kernel

/-- The ports are lawful in the states PortEvents is about. -/
theorem test_witness_PortEvents_lawful :
    State.reset.PortsLawful ∧ powering.PortsLawful ∧ linking.PortsLawful ∧
      (withPort 39 poweringOff powering).PortsLawful := by
  simp only [State.portsLawful_iff, PortRec.lawful_iff, State.TurnLawful]
  and_intros <;> decide +kernel

theorem test_witness_PortEvents :
    State.reset.senses.presence[(39 : Port)] = false ∧ State.reset.ports[(39 : Port)].auto = true ∧
      ({ PortRec.atReset 39 with auto := false } : PortRec).auto = false ∧
      State.reset.senses.fault[(39 : Port)] = false ∧ (State.reset.senseFault 39 true).senses.fault[(39 : Port)] = true ∧
      powering.senses.presence[(39 : Port)] = true ∧ powering.ports[(39 : Port)].switch = .closed ∧
      powering.senses.fault[(39 : Port)] = false ∧ State.reset.ports[(39 : Port)].switch = .opened ∧
      powering.ports[(39 : Port)].state = .powering ∧ powering.ports[(39 : Port)].command = some .powerOn ∧
      ¬(linking.ports[(39 : Port)].state = .powering ∧ linking.ports[(39 : Port)].command = some .powerOn) ∧
      ¬(linking.ports[(39 : Port)].state = .powering ∧ linking.ports[(39 : Port)].command = some .powerOff) ∧
      powering.ports[(39 : Port)].state ≠ .linking ∧
      poweringOff.state = .powering ∧ poweringOff.command = some .powerOff ∧
      linking.ports[(39 : Port)].state = .linking := by decide +kernel

theorem test_witness_PollRequests :
    pollModeParams [item 1 [0#8], item 2 [3#8]] = some { decks := .lower, mode := .priority } ∧
      pollModeParams [item 1 [1#8], item 2 [0#8]] = some { decks := .upper, mode := .stopped } ∧
      pollModeParams [item 1 [2#8], item 2 [1#8]] = some { decks := .both, mode := .singleSweep } ∧
      pollTimeoutParams [item 1 [8#8]] = some 8 ∧ readPollParams [item 1 [1#8]] = some .upper := by decide +kernel

theorem test_witness_TurnEnds :
    (State.reset.poller .upper).turn = none ∧
      (linking.poller .upper).turn = some { port := 39, kind := .identify, timerMs := 2, discarded := false } := by
  decide +kernel

theorem test_witness_TurnResults :
    answer39.identity = some ⟨.screenAudio, 1⟩ ∧
      ((.screenAudio : UnitKind) = .screenAudio ∨ (.screenAudio : UnitKind) = .audioOnly) ∧ answer39.fault = false ∧
      ¬(((.other 3#8 : UnitKind) = .screenAudio ∨ (.other 3#8 : UnitKind) = .audioOnly) ∧ (1 : Nat) = 1 ∧
        answer39.fault = false) ∧
      ({ activePort 39 with misses := 1 } : PortRec).misses < 2 ∧
      2 ≤ ({ activePort 39 with misses := 2 } : PortRec).misses ∧
      ({ answer39 with fault := true } : UnitReport).fault = true ∧
      (activePort 39).lastTaken = some ({ answer39 with number := 15#4 } : UnitReport).number ∧
      (activePort 39).lastTaken ≠ some answer39.number := by decide +kernel

/-- Deck U with a mode, port 38 ACTIVE and port 39 ACTIVE with the crew mark. -/
def deckIn (m : PollMode) : State :=
  { withPort 38 (activePort 38) (withPort 39 { activePort 39 with crew := true } State.reset) with
    upper := { State.reset.upper with mode := m } }

theorem test_witness_NextTurn :
    ((deckIn .stopped).poller .upper).mode = .stopped ∧
      ((deckIn .round).poller .upper).choose (deckIn .round) .upper =
        some (18, { Poller.atReset with mode := .round, round := 19 }) ∧
      ((deckIn .priority).poller .upper).choose (deckIn .priority) .upper =
        some (19, { Poller.atReset with mode := .priority, priority := 0, next := .ordinary }) ∧
      ((deckIn .singleSweep).poller .upper).choose (deckIn .singleSweep) .upper =
        some (18, { Poller.atReset with mode := .singleSweep, sweep := 19 }) ∧
      ((deckIn .round).poller .upper).turn = none ∧ ((deckIn .priority).poller .upper).turn = none ∧
      ((deckIn .priority).poller .upper).mode = .priority ∧ (linking.poller .upper).turn ≠ none ∧
      ((deckIn .singleSweep).poller .upper).mode = .singleSweep ∧
      (∀ k : Fin 20, State.reset.ports[portOf .upper k].state ≠ .linking ∧
        State.reset.ports[portOf .upper k].state ≠ .active) := by decide +kernel

theorem test_witness_FeedRequests :
    (∃ q, feedParams [item 1 [13#8], item 2 [1#8, 1#8, 15#8]] = some q ∧ q.feed = 13) ∧
    oneFeed [item 1 [13#8]] = some 13 ∧ State.reset.feeds[(13 : FeedIx)].state = .absent ∧
    fed.feeds[(13 : FeedIx)].state ≠ .absent ∧ fed.roster.rec? 14 = some (ann .playing (some 3)) ∧
    (∀ h : Handle, ∀ a ∈ (withAnn 14 (ann .gap none) one).roster.rec? h, a.state = .playing →
      a.source.feed ≠ some 13) ∧
    feedQueryParams [item 1 [14#8]] = some none ∧ feedQueryParams [item 1 [13#8]] = some (some 13) ∧
    State.reset.feeds[(13 : FeedIx)].timer = none ∧ fed.feeds[(13 : FeedIx)].timer = some 500 ∧
    stallParams [item 1 [7#8, 0xD0#8]] = some 2000 :=
  ⟨⟨_, rfl, rfl⟩, by decide +kernel⟩

/-- N1 is ACTIVE and the record of slot 14 that names it as its source is not PLAYING. -/
def fedIdle (st : AnnState) (c : Option Channel) : State := { aired st c with feeds := fed.feeds }

theorem test_witness_FeedFrames :
    readFeedFrame [] = none ∧ State.reset.feeds[(13 : FeedIx)].state = .absent ∧
      readFeedFrame (feedFrameBytes ⟨13, .data, []⟩) = some ⟨13, .data, []⟩ ∧
      fed.feeds[(13 : FeedIx)].state ≠ .absent ∧
      readFeedFrame (feedFrameBytes ⟨13, .endOfItem, []⟩) = some ⟨13, .endOfItem, []⟩ ∧
      (State.reset.feeds.set 13 { Feed.atReset with state := .waiting })[(13 : FeedIx)].state ≠ .active ∧
      (fedIdle .leadIn (some 3)).feeds[(13 : FeedIx)].state = .active ∧
      (fedIdle .leadIn (some 3)).feeds[(13 : FeedIx)].timer.isSome = true ∧
      (∀ h : Handle, ∀ a ∈ (fedIdle .leadIn (some 3)).roster.rec? h, a.state = .playing → a.source.feed ≠ some 13) ∧
      State.reset.feeds[(0 : FeedIx)].timer = none := by decide +kernel

/-- The lanes: a channel that carries a lead-in chime, one that carries N1, one that no record holds. -/
theorem test_witness_FeedFrames_lanes :
    (fedIdle .leadIn (some 3)).roster.rec? 14 = some (ann .leadIn (some 3)) ∧
      (ann .leadIn (some 3)).channel = some 3 ∧ fed.roster.rec? 14 = some (ann .playing (some 3)) ∧
      (∀ h : Handle, ∀ a ∈ fed.roster.rec? h, a.onAir = true → a.channel ≠ some 0) ∧
      (ann .playing (some 3)).source.feed = some 13 ∧
      fed.lane 15 = .feed 13 ∧ (fedIdle .leadIn (some 3)).lane 15 = .leadInChime ∧ fed.lane 12 = .silence ∧
      fed.mediaChannel 13 = some 15 ∧ fed.mediaChannel 12 = none := by decide +kernel

theorem test_witness_Resets :
    Pins.atReset.presence[(39 : Port)] = false ∧ powering.pins.presence[(39 : Port)] = true ∧
      powering.pins.fault[(39 : Port)] = false ∧ (powering.senseFault 39 true).pins.fault[(39 : Port)] = true ∧
      (withAlert .active one).alert.state ≠ .clear ∧ one.alert.state = .clear := by decide +kernel

theorem test_witness_Transfers :
    isBadRequest (0x16#8 :: [3#8, 0xE6#8]) = true ∧ isBadRequest [] = true := by decide +kernel

theorem test_witness_EventRequests :
    (enableParams [item 26 [0#8]]).isSome = true ∧ onePort [item 1 [39#8]] = some 39 ∧
      (ackBerthParams [item 1 [39#8], item 2 [2#8, 0#8]]).isSome = true ∧ ackCoachParams [item 1 [128#8]] = some 128#8 := by
  decide +kernel

theorem test_witness_DigestRules :
    (digestParams [item 2 [1#8]]).isSome = true ∧ State.reset.digest.walk = some ⟨.digestA, .msbFirst⟩ ∧
      ({ State.reset.digest with walk := none } : Digest).walk = none := by decide +kernel

end Sys2Proof.Tests
end

section
/-! SUPPORT. The presentation of an open berth on an ACTIVE port: its lamp is that of R39 in each of the cases 3 to 7 of
R32. -/

namespace Sys2Proof.Machine

open Sys2Proof

variable (s : State) (p : Port)

/-- Cases 3 to 7 of R32: the port is ACTIVE and its slot OPEN. -/
theorem State.resolve_of_open {s : State} {p : Port} {b : Berth} (hactive : s.ports[p].state = .active)
    (hopen : s.slots[p] = some b) : s.resolve p = some (s.occupied p b) := by
  simp only [State.resolve, hactive, hopen, if_true]

/-- No case that applies to an open berth fixes the lamp: each takes it from R39. -/
@[simp] theorem State.occupied_lamp (b : Berth) : (s.occupied p b).lamp = s.lamp p b.image := by
  unfold State.occupied
  cases s.roster.current p with
  | some announced => rfl
  | none =>
    by_cases calm : s.alert.state = .clear
    · cases hstate : b.image.state <;> simp [calm, hstate]
    · simp [calm]

/-- The Boolean test of the port's call, as the statements of R39 write it. -/
theorem State.callIn_iff (st : CallState) : s.callIn p st = true ↔ ∃ c, s.callOf p = some c ∧ c.state = st := by
  simp [State.callIn, Option.any_eq_true]

/-! ### The steps of R39 -/

variable {s} (i : Image)

/-- Step 1: an ACTIVE alert blinks the lamp whatever the override. -/
theorem State.lamp_of_alert_active (halert : s.alert.state = .active) : s.lamp p i = .blink := if_pos halert

/-- Step 2: an override that is not AUTO is the lamp. -/
theorem State.lamp_of_override (halert : s.alert.state ≠ .active) :
    (i.lamp = .off → s.lamp p i = .off) ∧ (i.lamp = .on → s.lamp p i = .on) ∧
      (i.lamp = .blink → s.lamp p i = .blink) := by
  refine ⟨?_, ?_, ?_⟩ <;> intro hoverride <;> simp [State.lamp, halert, hoverride]

/-- Steps 3 to 5: without an override the berth state and the port's call decide. -/
theorem State.lamp_of_auto (halert : s.alert.state ≠ .active) (hauto : i.lamp = .auto) :
    s.lamp p i =
      if i.state = .waking ∨ s.callIn p .pending then .blink else if s.callIn p .attended then .on else .off := by
  simp only [State.lamp, halert, hauto, if_false]

end Sys2Proof.Machine
end

section
/-! PROOF. The obligation of the family "Presentation resolution and delivery" (spec/02). -/

namespace Sys2Proof.Proofs

open Sys2Proof Sys2Proof.Machine

/-- Settles O24: an open berth on an ACTIVE port takes its lamp from R39, and then by the steps of R39 in their order. -/
theorem lampRule : Obligations.LampRule := by
  intro s p b d hactive hopen hres
  obtain rfl : s.occupied p b = d := Option.some.inj ((State.resolve_of_open hactive hopen).symm.trans hres)
  rw [State.occupied_lamp]
  by_cases halert : s.alert.state = .active
  · rw [if_pos halert, State.lamp_of_alert_active p _ halert]
  · obtain ⟨hoff, hon, hblink⟩ := State.lamp_of_override p b.image halert
    rw [if_neg halert]
    cases hlamp : b.image.lamp with
    | off => simp [hoff hlamp]
    | on => simp [hon hlamp]
    | blink => simp [hblink hlamp]
    | auto => simp [State.lamp_of_auto p _ halert hlamp, State.callIn_iff]

end Sys2Proof.Proofs
end

section
/-! SUPPORT. END_ANNOUNCE (spec/03 R63): what the request answers, and what each row of its table leaves in the slot. -/

namespace Sys2Proof.Machine

open Sys2Proof

/-! ### The request -/

section
variable {items : List Item} {s : State} {h : Handle} (hitems : oneHandle items = some h)
include hitems

/-- A FREE slot is NOT_FOUND. -/
theorem execEndAnnounce_notFound (hfree : s.roster.rec? h = none) :
    Replies (execEndAnnounce items s) s 0x21#8 .notFound [] := by
  simp only [execEndAnnounce, hitems, hfree]
  exact .of_refuse _ _ s

variable {a : Ann} (ha : s.roster.rec? h = some a)
include ha

/-- A DONE record is WRONG_STATE. -/
theorem execEndAnnounce_wrongState (hdone : a.state = .done) :
    Replies (execEndAnnounce items s) s 0x21#8 .wrongState [] := by
  have hdead : ¬a.live = true := by simp [Ann.live, hdone]
  simp only [execEndAnnounce, hitems, ha, if_neg hdead]
  exact .of_refuse _ _ s

/-- On a live record the request is taken, and its response reads the slot of the settled state. -/
theorem execEndAnnounce_takes (hlive : a.state ≠ .done) :
    Takes (execEndAnnounce items s) (s.atDesk fun env => Desk.endAnnounce env h a) 0x21#8
      fun t => [t.roster.stateBytes h] := by
  have hlive : a.live = true := by simp [Ann.live, hlive]
  simp only [execEndAnnounce, hitems, ha, if_pos hlive]
  exact .of_accept rfl rfl

end

/-- The response data of a slot that holds a record is the code of its state. -/
theorem Roster.stateBytes_of_rec {r : Roster} {h : Handle} {b : Ann} (hb : r.rec? h = some b) :
    r.stateBytes h = byteOf b.state.code := by
  simp only [Roster.stateBytes, hb, optBytes]

/-! ### The rows of R63 -/

section
variable (env : State) (h : Handle) {a : Ann}

theorem Desk.endAnnounce_leadIn (hs : a.state = .leadIn) :
    Desk.endAnnounce env h a = fun d => (d.update h Ann.unjoin).endRepetition env h := by
  funext d; simp only [Desk.endAnnounce, hs]

theorem Desk.endAnnounce_playing (hs : a.state = .playing) :
    Desk.endAnnounce env h a = fun d => d.endRepetition env h := by
  funext d; simp only [Desk.endAnnounce, hs]

theorem Desk.endAnnounce_offAir (hs : a.state = .queued ∨ a.state = .held ∨ a.state = .gap) :
    Desk.endAnnounce env h a = fun d => (d.finish .ended h).scan env := by
  funext d; rcases hs with hs | hs | hs <;> simp only [Desk.endAnnounce, hs]

end

section
variable {s t : State} {h : Handle} {a : Ann} (ha : s.roster.rec? h = some a)
  (ht : (s.atDesk fun env => Desk.endAnnounce env h a).SettledFrom t)
include ha ht

/-- LEAD_IN: the accounting runs on the record with its joined set empty. -/
theorem State.slotEnds_of_endAnnounce_leadIn (hs : a.state = .leadIn) : s.SlotEnds t h (a.afterPlayout []) := by
  simp only [Desk.endAnnounce_leadIn _ h hs] at ht
  refine State.slotEnds_of_endRepetition (a := a.unjoin) (fun _ d => d.update h Ann.unjoin) ha ?_ ht
  simp only [State.deskAfter, Desk.update, ha]

/-- PLAYING: the accounting runs on the record as it stands. -/
theorem State.slotEnds_of_endAnnounce_playing (hs : a.state = .playing) :
    s.SlotEnds t h (a.afterPlayout a.joined) := by
  simp only [Desk.endAnnounce_playing _ h hs] at ht
  refine State.slotEnds_of_endRepetition (fun _ d => d) ha ?_ ht
  rw [Roster.put_self ha, State.deskAfter]

/-- QUEUED, HELD and GAP: the record enters DONE with ENDED. -/
theorem State.slotEnds_of_endAnnounce_offAir (hs : a.state = .queued ∨ a.state = .held ∨ a.state = .gap) :
    s.SlotEnds t h (a.ended .ended) := by
  simp only [Desk.endAnnounce_offAir _ h hs] at ht
  exact State.slotEnds_of_finish .ended ha ht

end

end Sys2Proof.Machine
end

section
/-! PROOF. The obligation of the family "The Announcement Roster" (spec/03). -/

namespace Sys2Proof.Proofs

open Sys2Proof Sys2Proof.Machine

/-- Settles O29: the refusals of R63, and on a live record the row of its table for the record's state. -/
theorem endAnnounce : Obligations.EndAnnounce := by
  intro items s h hitems
  refine ⟨execEndAnnounce_notFound hitems, fun a ha => ⟨execEndAnnounce_wrongState hitems ha, fun hlive => ?_⟩⟩
  obtain ⟨t, hexec, ht, hreply⟩ := execEndAnnounce_takes hitems ha hlive
  -- Every row answers the state of the record that stands in the slot when the event has settled.
  have row {b : Ann} (hends : s.SlotEnds t h b) : ∃ (t : State) (c : Ann),
      exec (.endAnnounce items) s = .next t ∧ s.SlotEnds t h c ∧
        t.reply = some { code := 0x21#8, status := .ok, data := [byteOf c.state.code] } ∧ c = b :=
    ⟨t, b, hexec, hends, by simp only [hreply, Roster.stateBytes_of_rec hends.record], rfl⟩
  cases hs : a.state with
  | leadIn => exact row (State.slotEnds_of_endAnnounce_leadIn ha ht hs)
  | playing => exact row (State.slotEnds_of_endAnnounce_playing ha ht hs)
  | queued => exact row (State.slotEnds_of_endAnnounce_offAir ha ht (.inl hs))
  | held => exact row (State.slotEnds_of_endAnnounce_offAir ha ht (.inr (.inl hs)))
  | gap => exact row (State.slotEnds_of_endAnnounce_offAir ha ht (.inr (.inr hs)))
  | done => exact absurd hs hlive

end Sys2Proof.Proofs
end

section
/-! SUPPORT. SET_QUIET and LIGHTS_OUT (spec/05 R94, R95): the move of a berth to NIGHT as one claim, what the two
requests make of the Berth Table, and what each answers. -/

namespace Sys2Proof.Machine

open Sys2Proof

/-! ### A berth moved to NIGHT -/

/-- An AWAKE berth after its move to NIGHT: idle cleared, one generation step, the timer STOPPED (R90, R91, R94). -/
def Berth.asleep (b : Berth) : Berth :=
  { b with
    image := { b.image with state := .night, idle := false, generation := b.image.generation + 1 }
    timer := none }

/-- A NIGHT record fails the run condition (R91). -/
@[simp] theorem Image.runs_toNight (alert : AlertState) (i : Image) : i.toNight.runs alert = false := rfl

/-- Where the run condition fails after a claim, the timer is STOPPED (R91). -/
@[simp] theorem nextTimer_not_running (before activity : Bool) (load : Reload) (timer : Option Reload) :
    nextTimer before false activity load timer = none := rfl

/-- The move of an AWAKE record to NIGHT is a change of it, and so one generation step (01 R4). -/
theorem Image.advance_toNight {i : Image} (hawake : i.state = .awake) :
    i.advance i.toNight = { i with state := .night, idle := false, generation := i.generation + 1 } := by
  refine Image.advance_of_ne fun hsame => ?_
  have hnight : BerthState.night = i.state := congrArg Image.state hsame
  rw [hawake] at hnight
  cases hnight

/-- The claim that moves an AWAKE berth to NIGHT. -/
theorem Berth.claim_toNight {b : Berth} {f : Image → Image} (alert : AlertState) (load : Reload) (activity : Bool)
    (hawake : b.image.state = .awake) (hf : f b.image = b.image.toNight) :
    b.claim alert load activity f = b.asleep := by
  simp only [Berth.claim, hf, Image.advance_runs, Image.runs_toNight, nextTimer_not_running]
  rw [Image.advance_toNight hawake, Berth.asleep]

/-! ### The berths a request moves -/

theorem Image.dozing_awake {i : Image} (h : i.dozing = true) : i.state = .awake := by
  simp only [Image.dozing, Bool.and_eq_true, decide_eq_true_eq] at h
  exact h.1

theorem Image.isAwake_awake {i : Image} (h : i.isAwake = true) : i.state = .awake := of_decide_eq_true h

/-- A test that only AWAKE berths pass moves the berths that pass it, and leaves every other lawful berth, its timer
included, as it was. -/
theorem State.sleepWhere_eq {s : State} {f : Image → Bool} (hlawful : s.BerthsLawful)
    (hf : ∀ i, f i = true → i.state = .awake) :
    s.sleepWhere f = s.putSlots (s.slots.map (Option.map fun b => if f b.image then b.asleep else b)) := by
  refine (State.mapBerths_const s _).trans (congrArg s.putSlots (Vector.map_option_congr fun p b hb => ?_))
  by_cases hmoved : f b.image = true
  · rw [if_pos hmoved]
    exact Berth.claim_toNight _ _ _ (hf _ hmoved) (if_pos hmoved)
  · rw [if_neg hmoved]
    exact Berth.claim_same (hlawful p b hb) _ (if_neg hmoved)

/-- The claims that move berths to NIGHT do not read the quiet mode. -/
theorem State.sleepWhere_with_quiet (s : State) (m : QuietMode) (f : Image → Bool) :
    { s with quiet := m }.sleepWhere f = { s.sleepWhere f with quiet := m } := by
  simp only [State.sleepWhere, State.claimAll, State.mapBerths, State.putSlots]

/-- The ports whose open record passes a test, by their slots. -/
theorem State.portsWhere_eq (s : State) (f : Image → Bool) :
    s.portsWhere f = allPorts.filter fun p => (s.slots[p]).any fun b => f b.image := by
  simp only [State.portsWhere, State.image_any]

/-- SET_QUIET(DAY) moves no berth (R94). -/
theorem State.quietMoves_day (s : State) : s.quietMoves .day = 0 := rfl

@[simp] theorem State.settle_quiet (u : State) : u.settle.quiet = u.quiet :=
  u.settle_settledFrom.field State.quiet fun _ _ _ _ => rfl

/-! ### SET_QUIET -/

section
variable {items : List Item} {s : State}

theorem execSetQuiet_badParam (hitems : quietParams items = none) :
    Replies (execSetQuiet items s) s 0x32#8 .badParam [] := by
  simp only [execSetQuiet, hitems]
  exact .of_refuse _ _ s

/-- SET_QUIET is taken in every alert state, and its response gives the mode it named and the berths it moved. -/
theorem execSetQuiet_takes {m : QuietMode} (hitems : quietParams items = some m) :
    Takes (execSetQuiet items s) (s.setQuiet m) 0x32#8 fun _ => [byteOf m.code, byteOf (s.quietMoves m)] := by
  have hquiet : (s.setQuiet m).quiet = m := by cases m <;> rfl
  simp only [execSetQuiet, hitems]
  exact .of_accept rfl (by rw [State.settle_quiet, hquiet])

/-! ### LIGHTS_OUT -/

theorem execLightsOut_alertActive (halert : s.alert.state ≠ .clear) :
    Replies (execLightsOut [] s) s 0x33#8 .alertActive [] := by
  have hexec : execLightsOut [] s = refuse 0x33#8 .alertActive s := if_pos halert
  exact hexec ▸ .of_refuse _ _ s

theorem execLightsOut_wrongMode (halert : s.alert.state = .clear) (hday : s.quiet = .day) :
    Replies (execLightsOut [] s) s 0x33#8 .wrongMode [] := by
  have hexec : execLightsOut [] s = refuse 0x33#8 .wrongMode s := (if_neg (not_not.2 halert)).trans (if_pos hday)
  exact hexec ▸ .of_refuse _ _ s

theorem execLightsOut_takes (halert : s.alert.state = .clear) (hquiet : s.quiet = .quiet) :
    Takes (execLightsOut [] s) (s.sleepWhere Image.isAwake) 0x33#8
      fun _ => [byteOf (s.portsWhere Image.isAwake).length] := by
  have hnight : s.quiet ≠ .day := by simp [hquiet]
  have hexec : execLightsOut [] s = accept 0x33#8 (fun _ => [byteOf (s.portsWhere Image.isAwake).length])
      (s.sleepWhere Image.isAwake) := (if_neg (not_not.2 halert)).trans (if_neg hnight)
  exact hexec ▸ .of_accept rfl rfl

end

end Sys2Proof.Machine
end

section
/-! PROOF. The obligation of the family "Night policy and inactivity" (spec/05). -/

namespace Sys2Proof.Proofs

open Sys2Proof Sys2Proof.Machine

/-- Settles O37: the refusals of R94 and R95 in their order; SET_QUIET(QUIET) moves the idle AWAKE berths to NIGHT and
LIGHTS_OUT every AWAKE berth, one claim each, and the response counts them. -/
theorem quietRequests : Obligations.QuietRequests := by
  intro items s hlawful asleep move count idle awake
  have hidle : { s with quiet := .quiet }.sleepWhere Image.dozing = { move idle with quiet := .quiet } := by
    rw [State.sleepWhere_with_quiet, State.sleepWhere_eq hlawful fun _ => Image.dozing_awake]
    rfl
  have hawake : s.sleepWhere Image.isAwake = move awake := State.sleepWhere_eq hlawful fun _ => Image.isAwake_awake
  have hidles : (s.portsWhere Image.dozing).length = count idle := by rw [State.portsWhere_eq]; rfl
  have hawakes : (s.portsWhere Image.isAwake).length = count awake := by rw [State.portsWhere_eq]; rfl
  refine ⟨execSetQuiet_badParam, fun hitems => ?_, fun hitems => ?_, ?_, ?_, ?_⟩
  · rw [← hidle, ← hidles]
    exact execSetQuiet_takes hitems
  · have htakes := execSetQuiet_takes (s := s) hitems
    rw [State.quietMoves_day] at htakes
    exact htakes
  · rintro rfl
    exact execLightsOut_alertActive
  · rintro rfl
    exact execLightsOut_wrongMode
  · rintro rfl halert hquiet
    rw [← hawake, ← hawakes]
    exact execLightsOut_takes halert hquiet

end Sys2Proof.Proofs
end

section
/-! SUPPORT. WAKE_CANCEL (spec/06 R110): what the cancel makes of an ARMED berth and of a ringing one, and what the request
answers for each wake status. -/

namespace Sys2Proof.Machine

open Sys2Proof

/-! ### The wake statuses -/

theorem WakeStatus.ringing_iff {w : WakeStatus} : w.ringing = true ↔ w = .ringing1 ∨ w = .ringing2 := by
  simp only [WakeStatus.ringing, Bool.or_eq_true, decide_eq_true_eq]

/-- A status with no call to cancel neither rings nor is ARMED. -/
theorem WakeStatus.not_cancellable {w : WakeStatus}
    (h : w = .none ∨ w = .answered ∨ w = .unanswered ∨ w = .cancelled) : ¬w.ringing = true ∧ w ≠ .armed := by
  rcases h with rfl | rfl | rfl | rfl <;> decide

/-! ### The cancel of an ARMED berth -/

/-- The run condition does not read the wake status (05 R91). -/
@[simp] theorem Image.runs_disarm (alert : AlertState) (i : Image) : i.disarm.runs alert = i.runs alert := rfl

/-- CANCELLED is a change of an ARMED record, and so one generation step (01 R4). -/
theorem Image.advance_disarm {i : Image} (harmed : i.wake = .armed) :
    i.advance i.disarm = { i with wake := .cancelled, generation := i.generation + 1 } := by
  refine Image.advance_of_ne fun hsame => ?_
  have hcancelled : WakeStatus.cancelled = i.wake := congrArg Image.wake hsame
  rw [harmed] at hcancelled
  cases hcancelled

section
variable {mode : QuietMode} {alert : AlertState} {b : Berth} (hb : b.Lawful mode alert)
include hb

/-- Where the run condition stays as it was and no passenger acts, a lawful berth's timer stays as it was (05 R91). -/
theorem Berth.Lawful.nextTimer_same (load : Reload) :
    nextTimer (b.image.runs alert) (b.image.runs alert) false load b.timer = b.timer := by
  have htimer := hb.timer
  cases hruns : b.image.runs alert with
  | true => rfl
  | false =>
    rw [hruns, Option.isSome_eq_false_iff, Option.isNone_iff_eq_none] at htimer
    rw [nextTimer_not_running, htimer]

/-- The cancel of an ARMED berth changes its record alone: the timer, the button and the ramp stay. -/
theorem Berth.claim_disarm (load : Reload) (harmed : b.image.wake = .armed) :
    b.claim alert load false Image.disarm =
      { b with image := { b.image with wake := .cancelled, generation := b.image.generation + 1 } } := by
  simp only [Berth.claim, Image.advance_runs, Image.runs_disarm, hb.nextTimer_same]
  rw [Image.advance_disarm harmed]

end

/-! ### The cancel on the whole state -/

section
variable {s : State} {p : Port} {b : Berth} (hlawful : s.BerthsLawful) (hslot : s.slots[p] = some b)
include hlawful hslot

theorem State.claim_disarm (harmed : b.image.wake = .armed) :
    s.claim p false Image.disarm = s.putSlots (s.slots.set p.val (some { b with
      image := { b.image with wake := .cancelled, generation := b.image.generation + 1 } })) := by
  rw [State.claim, State.mapBerth_of_some hslot, Berth.claim_disarm (hlawful p b hslot) _ harmed]

/-- A ringing call is cancelled: the berth AWAKE with its ramp stopped, WAKE removed from the port's call, and a waiting
profile copied if no ramp is left (R102, R103, 07 R121). -/
theorem State.cancelRinging_eq (hringing : b.image.wake.ringing = true) :
    s.cancelRinging p = State.copyIfIdle { s.putSlots (s.slots.set p.val (some
      { image := { b.image with wake := .cancelled, state := .awake, generation := b.image.generation + 1 }
        timer := if s.alert.state = .clear then some s.policy.load else none
        button := b.button
        ramp := none })) with
      calls := s.calls.filterMap fun c =>
        if c.port = p then (if c.passenger then some { c with wake := false } else none) else some c } := by
  have hberth := hlawful p b hslot
  rw [State.cancelRinging, State.mapBerth_of_some hslot, Berth.endRinging_eq hberth (hberth.waking.2 hringing)]
  rfl

end

/-! ### The request -/

section
variable {items : List Item} {s : State}

theorem execWakeCancel_badParam (hitems : onePort items = none) :
    Replies (execWakeCancel items s) s 0x43#8 .badParam [] := by
  simp only [execWakeCancel, hitems]
  exact .of_refuse _ _ s

variable {p : Port} (hitems : onePort items = some p)
include hitems

theorem execWakeCancel_notOpen (hslot : s.slots[p] = none) :
    Replies (execWakeCancel items s) s 0x43#8 .notOpen [] := by
  simp only [execWakeCancel, hitems, State.image, hslot, Option.map_none]
  exact .of_refuse _ _ s

variable {b : Berth} (hslot : s.slots[p] = some b)
include hslot

theorem execWakeCancel_wrongState (hsilent : ¬b.image.wake.ringing = true) (hunarmed : b.image.wake ≠ .armed) :
    Replies (execWakeCancel items s) s 0x43#8 .wrongState [] := by
  simp only [execWakeCancel, hitems, State.image, hslot, Option.map_some, if_neg hsilent, if_neg hunarmed]
  exact .of_refuse _ _ s

/-- From ARMED the request is taken as one claim, and its response reads the slot of the settled state. -/
theorem execWakeCancel_armed (harmed : b.image.wake = .armed) :
    Takes (execWakeCancel items s) (s.claim p false Image.disarm) 0x43#8 fun t => [slotBytes t.slots[p]] := by
  have hsilent : ¬b.image.wake.ringing = true := by simp [harmed, WakeStatus.ringing_iff]
  simp only [execWakeCancel, hitems, State.image, hslot, Option.map_some, if_neg hsilent, if_pos harmed]
  exact .of_accept rfl rfl

/-- From RINGING_1 or RINGING_2 the request ends the ringing call, and its response reads the slot of the settled state. -/
theorem execWakeCancel_ringing (hringing : b.image.wake.ringing = true) :
    Takes (execWakeCancel items s) (s.cancelRinging p) 0x43#8 fun t => [slotBytes t.slots[p]] := by
  simp only [execWakeCancel, hitems, State.image, hslot, Option.map_some, if_pos hringing]
  exact .of_accept rfl rfl

end

end Sys2Proof.Machine
end

section
/-! PROOF. The obligation of the family "Route progress and wake calls" (spec/06). -/

namespace Sys2Proof.Proofs

open Sys2Proof Sys2Proof.Machine

/-- Settles O41: the refusals of R110 in their order; from ARMED one claim to CANCELLED, and from a ringing call the end of
the call, whose berth is lawful and so WAKING and not idle. -/
theorem wakeCancel : Obligations.WakeCancel := by
  refine ⟨fun items s hitems => execWakeCancel_badParam hitems, fun items s p hitems hlawful =>
    ⟨execWakeCancel_notOpen hitems, fun b hslot => ⟨fun hrests => ?_, fun harmed => ?_, fun hrings => ?_⟩⟩⟩
  · obtain ⟨hsilent, hunarmed⟩ := WakeStatus.not_cancellable hrests
    exact execWakeCancel_wrongState hitems hslot hsilent hunarmed
  · rw [← State.claim_disarm hlawful hslot harmed]
    exact execWakeCancel_armed hitems hslot harmed
  · have hringing : b.image.wake.ringing = true := WakeStatus.ringing_iff.2 hrings
    have htakes := execWakeCancel_ringing hitems hslot hringing
    rw [State.cancelRinging_eq hlawful hslot hringing] at htakes
    exact htakes

end Sys2Proof.Proofs
end

section
/-! SUPPORT. What a step can do, said once: the effect of each command that is taken, with the conditions it is taken under,
and the inversion of `exec` and `step` (spec/95). Every invariant is derived from these. -/

namespace Sys2Proof.Machine

open Sys2Proof

/-- What a command makes of the berth records and what stands beside them: the Call List, the wake profiles, the quiet
mode, the alert state and the digest. -/
inductive State.TableEffect (s : State) : State → Prop
  | openBerth (q : OpenParams) (hvacant : s.isOpen q.port = false) (hnew : s.portOfRef q.ref = none) :
      s.TableEffect (s.openBerth q)
  | amendBerth (q : AmendParams) (i : Image) (himage : s.image q.port = some i)
      (hquiet : q.changes.meetsRinging i = false) : s.TableEffect (s.amendBerth q)
  | setQuiet (m : QuietMode) : s.TableEffect (s.setQuiet m)
  | lightsOut : s.TableEffect (s.sleepWhere Image.isAwake)
  | route (q : RouteParams) : s.TableEffect (s.route q)
  | setProfile (p : Profile) (hrising : p.rising = true) : s.TableEffect (s.setProfile p)
  | cancelRinging (p : Port) (i : Image) (himage : s.image p = some i) (hringing : i.wake.ringing = true) :
      s.TableEffect (s.cancelRinging p)
  | disarm (p : Port) (i : Image) (himage : s.image p = some i) (harmed : i.wake = .armed) :
      s.TableEffect (s.claim p false Image.disarm)
  | callAttend (p : Port) : s.TableEffect (s.attendCall p)
  | callClose (p : Port) : s.TableEffect (s.dropCall p)
  | alertClear (hactive : s.alert.state = .active) : s.TableEffect (s.alertTo .released)
  | resume (hreleased : s.alert.state = .released) : s.TableEffect s.resume
  | inactivity (p : Port) (htimer : (s.slots[p].bind Berth.timer).isSome = true) :
      s.TableEffect (s.claim p false (Image.expire s.quiet))
  | endWindow (p : Port) (harmed : (s.slots[p].any fun b => b.button.isArmed) = true) : s.TableEffect (s.endWindow p)
  | stepRamp (p : Port) : s.TableEffect (s.stepRamp p)
  | stage1 (p : Port) (hstage : s.ringingStatus p = some .ringing1) :
      s.TableEffect ((s.mapBerth p (Berth.escalate s.alert.state s.policy.load s.wake.active)).raiseCall p .wake)
  | stage2 (p : Port) (hstage : s.ringingStatus p = some .ringing2) :
      s.TableEffect (((s.mapBerth p (Berth.endRinging s.alert.state s.policy.load false .unanswered)).flagBerth
        .wakeUnanswered p).copyIfIdle)
  | setDigest (c : DigestChange) : s.TableEffect { s with digest := c.apply s.digest }
  | walkComplete (w : Walk) (hwalk : s.digest.walk = some w) :
      s.TableEffect ({ s with digest := { s.digest with settled := w.crc s.slots, walk := none } }.flagCoach .digestSettled)

/-- What a command or a media frame makes of the Roster and of the feeds. -/
inductive State.DeskEffect (s : State) : State → Prop
  | announce (q : AnnounceParams) (target : Target) (h : Handle) (hfree : s.roster.freeSlot = some h) :
      s.DeskEffect (s.announce q target h)
  | endAnnounce (h : Handle) (a : Ann) (hrec : s.roster.rec? h = some a) (hlive : a.live = true) :
      s.DeskEffect (s.atDesk fun env => Desk.endAnnounce env h a)
  | cancelAnnounce (h : Handle) (a : Ann) (hrec : s.roster.rec? h = some a) (hlive : a.live = true) :
      s.DeskEffect (s.atDesk fun env d => (d.finish .cancelled h).scan env)
  | releaseAnnounce (h : Handle) (a : Ann) (hrec : s.roster.rec? h = some a) (hlive : a.live = false) :
      s.DeskEffect { s with roster := s.roster.free h }
  | leadInEnd (h : Handle) (a : Ann) (hrec : s.roster.rec? h = some a) (hstate : a.state = .leadIn) :
      s.DeskEffect (s.atDesk fun env => Desk.leadInEnd env h a)
  | durationExpiry (h : Handle) (a : Ann) (hrec : s.roster.rec? h = some a) (hstate : a.state = .playing) :
      s.DeskEffect (s.atDesk fun env => Desk.endRepetition env h)
  | gapExpiry (h : Handle) (a : Ann) (hrec : s.roster.rec? h = some a) (hstate : a.state = .gap) :
      s.DeskEffect (s.atDesk fun env d => (d.update h Ann.requeue).join env h)
  | configureFeed (q : FeedParams) : s.DeskEffect (s.mapFeed q.feed (Feed.configure q.desc))
  | unconfigureFeed (f : FeedIx) : s.DeskEffect ((s.mapFeed f fun _ => Feed.atReset).endPlayout f false)
  | stall (f : FeedIx) (htimer : s.feeds[f].timer.isSome = true) : s.DeskEffect (s.stallFeed f)
  | dataTaken (g : FeedFrame) (hpresent : s.feeds[g.feed].state ≠ .absent) : s.DeskEffect (s.dataTaken g)
  | endTaken (g : FeedFrame) (hpresent : s.feeds[g.feed].state ≠ .absent) : s.DeskEffect (s.endTaken g)

/-- What a command or an event at a port makes of the ports and the pollers. -/
inductive State.LineEffect (s : State) : State → Prop
  | portPower (q : PowerParams) (hidle : s.ports[q.port].command = none) (hplugged : s.ports[q.port].state ≠ .empty) :
      s.LineEffect (s.portPower q)
  | portConfig (q : ConfigParams) : s.LineEffect (s.mapPort q.port q.apply)
  | ackBerthEvents (q : AckParams) : s.LineEffect (s.mapPort q.port (PortRec.ack q.kinds))
  | setPollMode (q : PollModeParams) : s.LineEffect (q.decks.decks.foldl (fun t d => t.setMode q.mode d) s)
  | presenceRise (p : Port) (hlow : s.senses.presence[p] = false) : s.LineEffect ((s.sensePresence p true).rise p)
  | presenceFall (p : Port) (hhigh : s.senses.presence[p] = true) :
      s.LineEffect ((s.sensePresence p false).dropPort p PortRec.fall)
  | powerFault (p : Port) (hpowered : s.ports[p].powered = true) :
      s.LineEffect ((s.senseFault p true).dropPort p PortRec.powerFailed)
  | powerGood (p : Port) (hpowering : s.ports[p].poweringUp = true) :
      s.LineEffect (((s.mapPort p (PortRec.linkUp s.timing)).refresh).wakePoller (deckOf p))
  | powerGoodExpiry (p : Port) (htimer : s.ports[p].timer.any PortTimer.isPowerGood = true) :
      s.LineEffect (s.dropPort p PortRec.powerFailed)
  | dischargeEnd (p : Port) (htimer : s.ports[p].timer.any PortTimer.isDischarge = true) :
      s.LineEffect (s.dropPort p PortRec.discharged)
  | linkExpiry (p : Port) (htimer : s.ports[p].timer.any PortTimer.isLink = true) :
      s.LineEffect (s.dropPort p PortRec.linkFailed)

/-- What a request makes of the settings and the enables, and of the coach flags it acknowledges. -/
inductive State.RegisterEffect (s : State) : State → Prop
  | setPolicy (c : PolicyChange) : s.RegisterEffect { s with policy := c.apply s.policy }
  | setButtonWindow (ms : Nat) : s.RegisterEffect { s with windowMs := ms }
  | setAlertConfig (c : AlertChange) :
      s.RegisterEffect { s with alert := { s.alert with config := c.apply s.alert.config } }
  | setPortTiming (timing : PortTiming) : s.RegisterEffect { s with timing := timing }
  | setPollTimeout (ms : Nat) : s.RegisterEffect { s with responseMs := ms }
  | setFeedStall (ms : Nat) : s.RegisterEffect { s with stallMs := ms }
  | setEventEnables (q : EnableParams) : s.RegisterEffect { s with events := q.apply s.events }
  | ackCoachEvents (kinds : BitVec 8) : s.RegisterEffect { s with events := s.events.ack kinds }

/-- What a taken command makes of the state, before the event is settled: a change of several blocks at once, or one of the
berth records, of the Roster and the feeds, of the ports, or of the settings. -/
inductive State.Effect (s : State) : State → Prop
  | reset (pins : Pins) : s.Effect { State.blank pins with pending := s.pending, free := s.free }.readSenses
  | tripReset (hclear : s.alert.state = .clear) : s.Effect s.tripReset
  | retireBerth (p : Port) : s.Effect (s.retireBerth p)
  | alertEntry (level : Level) (hinactive : s.alert.state ≠ .active) : s.Effect (s.alertLevel level).alertEntry
  | turn (d : Deck) (t : Turn) (report : Option UnitReport) (hturn : (s.poller d).turn = some t) :
      s.Effect ((s.turnResult t report).nextTurn d)
  | table {u : State} (h : s.TableEffect u) : s.Effect u
  | desk {u : State} (h : s.DeskEffect u) : s.Effect u
  | line {u : State} (h : s.LineEffect u) : s.Effect u
  | register {u : State} (h : s.RegisterEffect u) : s.Effect u

/-- `t` is `s` but for what no table, record or presentation is made from: the queue, the response and the bytes read, the
free values used, the clock, and the levels of ALERT_IN and of the power-fault senses. -/
def State.Idles (s t : State) : Prop :=
  t = { s with
    pending := t.pending, reply := t.reply, miso := t.miso, free := t.free, clock := t.clock
    alert := { s.alert with level := t.alert.level }, senses := { s.senses with fault := t.senses.fault } }

/-- A command either idles, or takes effect and is settled, whatever response is then held. -/
def State.After (s t : State) : Prop := s.Idles t ∨ ∃ u, s.Effect u ∧ t = { u.settle with reply := t.reply }

/-- Every next state an answer gives is one a command can make. -/
def State.Answers (s : State) (o : Answer) : Prop := ∀ t, o = .next t → s.After t

/-! ### The forms of an answer -/

section

variable {s : State}

theorem State.Answers.self : s.Answers (.next s) := by
  rintro t ⟨⟩; exact .inl rfl

theorem State.Answers.refuse (code : Byte) (st : Status) : s.Answers (refuse code st s) := by
  rintro t ⟨⟩; exact .inl rfl

theorem State.Answers.reply (code : Byte) (st : Status) (data : List (List Byte)) :
    s.Answers (.next (s.respond code st data)) := by
  rintro t ⟨⟩; exact .inl rfl

theorem State.Answers.answer (code : Byte) (data : State → List (List Byte)) : s.Answers (answer code data s) := by
  rintro t ⟨⟩; exact .inl rfl

/-- Answers that use a free value idle as well. -/
theorem State.Answers.free (code : Byte) (data : State → List (List Byte)) (n : Nat) :
    s.Answers (Machine.answer code data (s.useFree n)) := by
  rintro t ⟨⟩; exact .inl rfl

theorem State.Answers.accept {u : State} (h : s.Effect u) (code : Byte) (data : State → List (List Byte)) :
    s.Answers (Machine.accept code data u) := by
  rintro t ⟨⟩; exact .inr ⟨u, h, rfl⟩

theorem State.Answers.settle {u : State} (h : s.Effect u) : s.Answers (.next u.settle) := by
  rintro t ⟨⟩; exact .inr ⟨u, h, rfl⟩

/-- A late expiry is not taken. -/
theorem State.Answers.unlessLate {α : Type} {e : Expiry α} {f : α → Answer} (h : s.Answers (f e.site)) :
    s.Answers (unlessLate e s f) := by
  unfold Machine.unlessLate
  split
  · exact .self
  · exact h

theorem State.Answers.ite {c : Prop} [Decidable c] {a b : Answer} (ha : c → s.Answers a) (hb : ¬c → s.Answers b) :
    s.Answers (if c then a else b) := by
  split
  · exact ha ‹c›
  · exact hb ‹¬c›

/-- An expiry that is in time is taken where its timer runs, and else changes nothing. -/
theorem State.Answers.expiry {α : Type} {e : Expiry α} {c : α → Prop} [DecidablePred c] {u : α → State}
    (h : c e.site → s.Effect (u e.site)) :
    s.Answers (Machine.unlessLate e s fun x => if c x then .next (u x).settle else .next s) :=
  .unlessLate (.ite (fun hc => .settle (h hc)) fun _ => .self)

end

/-! ### The commands -/

section

variable (s : State) (items : List Item)

theorem execBadRequest_answers (frame : List Byte) : s.Answers (execBadRequest frame s) := by
  unfold execBadRequest
  split
  · split
    · rintro t ⟨⟩; exact .inl rfl
    · exact .refuse _ _
  · rintro t ⟨⟩

theorem execResponseRead_answers (n : Nat) : s.Answers (execResponseRead n s) := by
  rintro t ⟨⟩; exact .inl rfl

theorem execOpenBerth_answers : s.Answers (execOpenBerth items s) := by
  unfold execOpenBerth
  split
  · exact .refuse _ _
  · next q _ =>
    refine .ite (fun _ => .refuse _ _) fun hvacant => .ite (fun _ => .refuse _ _) fun hnew => ?_
    exact .accept (.table (.openBerth q (by simpa using hvacant) (by simpa using hnew))) _ _

theorem execAmendBerth_answers : s.Answers (execAmendBerth items s) := by
  unfold execAmendBerth
  split
  · exact .refuse _ _
  · next q _ =>
    split
    · exact .refuse _ _
    · next i himage =>
      refine .ite (fun _ => .reply _ _ _) fun _ => .ite (fun _ => .refuse _ _) fun hquiet => ?_
      exact .accept (.table (.amendBerth q i himage (by simpa using hquiet))) _ _

theorem execRetireBerth_answers : s.Answers (execRetireBerth items s) := by
  unfold execRetireBerth
  split
  · exact .refuse _ _
  · next q _ =>
    split
    · exact .refuse _ _
    · exact .ite (fun _ => .reply _ _ _) fun _ => .accept (.retireBerth q.port) _ _

theorem execLookupBerth_answers : s.Answers (execLookupBerth items s) := by
  unfold execLookupBerth
  split
  · exact .refuse _ _
  · exact .answer _ _

theorem execFindOccupant_answers : s.Answers (execFindOccupant items s) := by
  unfold execFindOccupant
  split
  · exact .refuse _ _
  · split
    · exact .refuse _ _
    · exact .answer _ _

theorem execListOccupied_answers : s.Answers (execListOccupied items s) := by
  unfold execListOccupied
  split
  · exact .refuse _ _
  · exact .answer _ _

theorem execAnnounce_answers : s.Answers (execAnnounce items s) := by
  unfold execAnnounce
  split
  · exact .refuse _ _
  · next q _ =>
    split
    · exact .refuse _ _
    · next target _ =>
      split
      · exact .refuse _ _
      · next h hfree => exact .accept (.desk (.announce q target h hfree)) _ _

theorem execEndAnnounce_answers : s.Answers (execEndAnnounce items s) := by
  unfold execEndAnnounce
  split
  · exact .refuse _ _
  · next h _ =>
    split
    · exact .refuse _ _
    · next a hrec => exact .ite (fun hlive => .accept (.desk (.endAnnounce h a hrec hlive)) _ _) fun _ => .refuse _ _

theorem execCancelAnnounce_answers : s.Answers (execCancelAnnounce items s) := by
  unfold execCancelAnnounce
  split
  · exact .refuse _ _
  · next h _ =>
    split
    · exact .refuse _ _
    · next a hrec => exact .ite (fun hlive => .accept (.desk (.cancelAnnounce h a hrec hlive)) _ _) fun _ => .refuse _ _

theorem execReleaseAnnounce_answers : s.Answers (execReleaseAnnounce items s) := by
  unfold execReleaseAnnounce
  split
  · exact .refuse _ _
  · next h _ =>
    split
    · exact .refuse _ _
    · next a hrec =>
      exact .ite (fun _ => .refuse _ _) fun hlive => .accept (.desk (.releaseAnnounce h a hrec (by simpa using hlive))) _ _

theorem execLookupAnnounce_answers : s.Answers (execLookupAnnounce items s) := by
  unfold execLookupAnnounce
  split
  · exact .refuse _ _
  · split
    · exact .refuse _ _
    · exact .answer _ _

theorem execListAnnounce_answers : s.Answers (execListAnnounce items s) := by
  unfold execListAnnounce
  split
  · exact .refuse _ _
  · exact .answer _ _

theorem execSetPolicy_answers : s.Answers (execSetPolicy items s) := by
  unfold execSetPolicy
  split
  · exact .refuse _ _
  · next c _ => exact .accept (.register (.setPolicy c)) _ _

theorem execReadPolicy_answers : s.Answers (execReadPolicy items s) := by
  unfold execReadPolicy
  split
  · exact .refuse _ _
  · exact .answer _ _

theorem execSetQuiet_answers : s.Answers (execSetQuiet items s) := by
  unfold execSetQuiet
  split
  · exact .refuse _ _
  · next m _ => exact .accept (.table (.setQuiet m)) _ _

theorem execLightsOut_answers : s.Answers (execLightsOut items s) := by
  unfold execLightsOut
  split
  · exact .refuse _ _
  · exact .ite (fun _ => .refuse _ _) fun _ => .ite (fun _ => .refuse _ _) fun _ => .accept (.table .lightsOut) _ _

theorem routeRequest_answers : s.Answers (s.routeRequest items) := by
  unfold State.routeRequest
  split
  · exact .refuse _ _
  · next q _ => exact .accept (.table (.route q)) _ _

theorem execSetWakeProfile_answers : s.Answers (execSetWakeProfile items s) := by
  unfold execSetWakeProfile
  split
  · exact .refuse _ _
  · exact .ite (fun hrising => .accept (.table (.setProfile _ hrising)) _ _) fun _ => .refuse _ _

theorem execReadWakeProfile_answers : s.Answers (execReadWakeProfile items s) := by
  unfold execReadWakeProfile
  split
  · exact .refuse _ _
  · exact .answer _ _

theorem execWakeCancel_answers : s.Answers (execWakeCancel items s) := by
  unfold execWakeCancel
  split
  · exact .refuse _ _
  · next p _ =>
    split
    · exact .refuse _ _
    · next i himage =>
      refine .ite (fun hringing => .accept (.table (.cancelRinging p i himage hringing)) _ _) fun _ => ?_
      exact .ite (fun harmed => .accept (.table (.disarm p i himage harmed)) _ _) fun _ => .refuse _ _

theorem execSetButtonWindow_answers : s.Answers (execSetButtonWindow items s) := by
  unfold execSetButtonWindow
  split
  · exact .refuse _ _
  · next ms _ => exact .accept (.register (.setButtonWindow ms)) _ _

theorem execCallNext_answers : s.Answers (execCallNext items s) := by
  unfold execCallNext
  split
  · exact .refuse _ _
  · exact .answer _ _

theorem execCallList_answers : s.Answers (execCallList items s) := by
  unfold execCallList
  split
  · exact .refuse _ _
  · exact .answer _ _

theorem execCallAttend_answers : s.Answers (execCallAttend items s) := by
  unfold execCallAttend
  split
  · exact .refuse _ _
  · next p _ =>
    split
    · exact .refuse _ _
    · exact .ite (fun _ => .refuse _ _) fun _ => .accept (.table (.callAttend p)) _ _

theorem execCallClose_answers : s.Answers (execCallClose items s) := by
  unfold execCallClose
  split
  · exact .refuse _ _
  · next p _ =>
    split
    · exact .refuse _ _
    · exact .accept (.table (.callClose p)) _ _

theorem State.alertLevel_self : s.alertLevel s.alert.level = s := rfl

theorem execAlertRaise_answers : s.Answers (execAlertRaise items s) := by
  unfold execAlertRaise
  split
  · exact .refuse _ _
  · refine .ite (fun _ => .refuse _ _) fun hinactive => .accept ?_ _ _
    have heffect := State.Effect.alertEntry s.alert.level hinactive
    rwa [State.alertLevel_self] at heffect

theorem execAlertClear_answers : s.Answers (execAlertClear items s) := by
  unfold execAlertClear
  split
  · exact .refuse _ _
  · exact .ite (fun hactive => .accept (.table (.alertClear hactive)) _ _) fun _ => .refuse _ _

theorem execResume_answers : s.Answers (execResume items s) := by
  unfold execResume
  split
  · exact .refuse _ _
  · split
    · exact .refuse _ _
    · exact .refuse _ _
    · next hreleased => exact .accept (.table (.resume hreleased)) _ _

theorem execSetAlertConfig_answers : s.Answers (execSetAlertConfig items s) := by
  unfold execSetAlertConfig
  split
  · exact .refuse _ _
  · next c _ => exact .ite (fun _ => .refuse _ _) fun _ => .accept (.register (.setAlertConfig c)) _ _

theorem execReadAlert_answers : s.Answers (execReadAlert items s) := by
  unfold execReadAlert
  split
  · exact .refuse _ _
  · exact .answer _ _

theorem execPortPower_answers : s.Answers (execPortPower items s) := by
  unfold execPortPower
  split
  · exact .refuse _ _
  · next q _ =>
    refine .ite (fun _ => .refuse _ _) fun hidle => .ite (fun _ => .refuse _ _) fun hplugged => ?_
    exact .accept (.line (.portPower q (by simpa using hidle) hplugged)) _ _

theorem execPortConfig_answers : s.Answers (execPortConfig items s) := by
  unfold execPortConfig
  split
  · exact .refuse _ _
  · next q _ => exact .ite (fun _ => .refuse _ _) fun _ => .accept (.line (.portConfig q)) _ _

theorem execPortQuery_answers : s.Answers (execPortQuery items s) := by
  unfold execPortQuery
  split
  · exact .refuse _ _
  · exact .free _ _ _

theorem execSetPortTiming_answers : s.Answers (execSetPortTiming items s) := by
  unfold execSetPortTiming
  split
  · exact .refuse _ _
  · exact .accept (.register (.setPortTiming _)) _ _

theorem execSetPollMode_answers : s.Answers (execSetPollMode items s) := by
  unfold execSetPollMode
  split
  · exact .refuse _ _
  · next q _ => exact .accept (.line (.setPollMode q)) _ _

theorem execSetPollTimeout_answers : s.Answers (execSetPollTimeout items s) := by
  unfold execSetPollTimeout
  split
  · exact .refuse _ _
  · next ms _ => exact .accept (.register (.setPollTimeout ms)) _ _

theorem execReadPoll_answers : s.Answers (execReadPoll items s) := by
  unfold execReadPoll
  split
  · exact .refuse _ _
  · exact .answer _ _

theorem execConfigureFeed_answers : s.Answers (execConfigureFeed items s) := by
  unfold execConfigureFeed
  split
  · exact .refuse _ _
  · next q _ => exact .accept (.desk (.configureFeed q)) _ _

theorem execUnconfigureFeed_answers : s.Answers (execUnconfigureFeed items s) := by
  unfold execUnconfigureFeed
  split
  · exact .refuse _ _
  · next f _ => exact .ite (fun _ => .refuse _ _) fun _ => .accept (.desk (.unconfigureFeed f)) _ _

theorem execFeedQuery_answers : s.Answers (execFeedQuery items s) := by
  unfold execFeedQuery
  split
  · exact .refuse _ _
  · exact .answer _ _
  · exact .free _ _ _

theorem execSetFeedStall_answers : s.Answers (execSetFeedStall items s) := by
  unfold execSetFeedStall
  split
  · exact .refuse _ _
  · next ms _ => exact .accept (.register (.setFeedStall ms)) _ _

theorem afterReset_answers (pins : Pins) : s.Answers (.next (s.afterReset pins)) := .settle (.reset pins)

theorem execTripReset_answers : s.Answers (execTripReset items s) := by
  unfold execTripReset
  split
  · exact .refuse _ _
  · exact .ite (fun hclear => .accept (.tripReset hclear) _ _) fun _ => .refuse _ _

theorem execSetEventEnables_answers : s.Answers (execSetEventEnables items s) := by
  unfold execSetEventEnables
  split
  · exact .refuse _ _
  · next q _ => exact .accept (.register (.setEventEnables q)) _ _

theorem execReadSummary_answers : s.Answers (execReadSummary items s) := by
  unfold execReadSummary
  split
  · exact .refuse _ _
  · exact .answer _ _

theorem execReadBerthEvents_answers : s.Answers (execReadBerthEvents items s) := by
  unfold execReadBerthEvents
  split
  · exact .refuse _ _
  · exact .answer _ _

theorem execAckBerthEvents_answers : s.Answers (execAckBerthEvents items s) := by
  unfold execAckBerthEvents
  split
  · exact .refuse _ _
  · next q _ => exact .accept (.line (.ackBerthEvents q)) _ _

theorem execAckCoachEvents_answers : s.Answers (execAckCoachEvents items s) := by
  unfold execAckCoachEvents
  split
  · exact .refuse _ _
  · next kinds _ => exact .accept (.register (.ackCoachEvents kinds)) _ _

theorem execSetDigest_answers : s.Answers (execSetDigest items s) := by
  unfold execSetDigest
  split
  · exact .refuse _ _
  · next c _ => exact .accept (.table (.setDigest c)) _ _

theorem execReadDigest_answers : s.Answers (execReadDigest items s) := by
  unfold execReadDigest
  split
  · exact .refuse _ _
  · exact .answer _ _

theorem execResponse_answers (d : Deck) (late : Bool) (frame : List Byte) : s.Answers (execResponse d late frame s) := by
  refine .ite (fun _ => .self) fun _ => ?_
  split
  · exact .self
  · next t hturn => exact .settle (.turn d t _ hturn)

theorem execResponseTimerExpiry_answers (e : Expiry Deck) : s.Answers (execResponseTimerExpiry e s) := by
  refine .unlessLate ?_
  split
  · exact .self
  · next t hturn => exact .settle (.turn _ t none hturn)

theorem execPresenceRise_answers (p : Port) : s.Answers (execPresenceRise p s) :=
  .ite (fun _ => .self) fun hlow => .settle (.line (.presenceRise p (by simpa using hlow)))

theorem execPresenceFall_answers (p : Port) : s.Answers (execPresenceFall p s) :=
  .ite (fun hhigh => .settle (.line (.presenceFall p hhigh))) fun _ => .self

theorem execPowerFault_answers (p : Port) (asserted : Bool) : s.Answers (execPowerFault p asserted s) := by
  refine .ite (fun h => .settle (.line (.powerFault p ?_))) fun _ => ?_
  · simp only [Bool.and_eq_true] at h
    exact h.2
  · rintro t ⟨⟩; exact .inl rfl

theorem execPowerGood_answers (p : Port) : s.Answers (execPowerGood p s) :=
  .ite (fun hpowering => .settle (.line (.powerGood p hpowering))) fun _ => .self

theorem execAlertInEdge_answers (level : Level) : s.Answers (execAlertInEdge level s) := by
  refine .ite (fun _ => .self) fun _ => .ite (fun h => .settle (.alertEntry level h.2)) fun _ => ?_
  rintro t ⟨⟩; exact .inl rfl

theorem execPowerGoodTimerExpiry_answers (e : Expiry Port) : s.Answers (execPowerGoodTimerExpiry e s) := by
  unfold execPowerGoodTimerExpiry
  exact .expiry fun h => .line (.powerGoodExpiry _ h)

theorem execDischargeEnd_answers (e : Expiry Port) : s.Answers (execDischargeEnd e s) := by
  unfold execDischargeEnd
  exact .expiry fun h => .line (.dischargeEnd _ h)

theorem execLinkTimerExpiry_answers (e : Expiry Port) : s.Answers (execLinkTimerExpiry e s) := by
  unfold execLinkTimerExpiry
  exact .expiry fun h => .line (.linkExpiry _ h)

theorem execInactivityExpiry_answers (e : Expiry Port) : s.Answers (execInactivityExpiry e s) := by
  unfold execInactivityExpiry
  exact .expiry fun h => .table (.inactivity _ h)

theorem execWindowExpiry_answers (e : Expiry Port) : s.Answers (execWindowExpiry e s) := by
  unfold execWindowExpiry
  exact .expiry fun h => .table (.endWindow _ h)

theorem execStepBoundary_answers (e : Expiry Port) : s.Answers (execStepBoundary e s) := by
  unfold execStepBoundary
  exact .expiry fun _ => .table (.stepRamp _)

theorem execStage1Expiry_answers (e : Expiry Port) : s.Answers (execStage1Expiry e s) := by
  unfold execStage1Expiry
  exact .expiry fun h => .table (.stage1 _ h)

theorem execStage2Expiry_answers (e : Expiry Port) : s.Answers (execStage2Expiry e s) := by
  unfold execStage2Expiry
  exact .expiry fun h => .table (.stage2 _ h)

theorem execStallTimerExpiry_answers (e : Expiry FeedIx) : s.Answers (execStallTimerExpiry e s) := by
  unfold execStallTimerExpiry
  exact .expiry fun h => .desk (.stall _ h)

theorem execLeadInEnd_answers (e : Expiry Handle) : s.Answers (execLeadInEnd e s) := by
  refine .unlessLate ?_
  split
  · exact .self
  · next a hrec => exact .ite (fun h => .settle (.desk (.leadInEnd _ a hrec h))) fun _ => .self

theorem execDurationExpiry_answers (e : Expiry Handle) : s.Answers (execDurationExpiry e s) := by
  refine .unlessLate ?_
  split
  · exact .self
  · next a hrec => exact .ite (fun h => .settle (.desk (.durationExpiry _ a hrec h))) fun _ => .self

theorem execGapExpiry_answers (e : Expiry Handle) : s.Answers (execGapExpiry e s) := by
  refine .unlessLate ?_
  split
  · exact .self
  · next a hrec => exact .ite (fun h => .settle (.desk (.gapExpiry _ a hrec h))) fun _ => .self

theorem mediaFrame_answers (bytes : List Byte) : s.Answers (.next (s.mediaFrame bytes)) := by
  unfold State.mediaFrame
  split
  · exact .self
  · next g _ =>
    split
    · exact .self
    · next hpresent =>
      split
      · exact .settle (.desk (.dataTaken g hpresent))
      · exact .settle (.desk (.endTaken g hpresent))

theorem execWalkComplete_answers : s.Answers (execWalkComplete s) := by
  unfold execWalkComplete
  split
  · exact .self
  · next w hwalk => exact .settle (.table (.walkComplete w hwalk))

theorem execCoachClockTick_answers : s.Answers (execCoachClockTick s) := by
  rintro t ⟨⟩; exact .inl rfl

end

/-! ### Inversion -/

/-- What a command can do: it idles, or it takes its effect, and the event is settled. -/
theorem exec_answers (c : Instr) (s : State) : s.Answers (exec c s) := by
  cases c with
  | powerOnReset pins => exact afterReset_answers s pins
  | badRequest frame => exact execBadRequest_answers s frame
  | responseRead n => exact execResponseRead_answers s n
  | openBerth items => exact execOpenBerth_answers s items
  | amendBerth items => exact execAmendBerth_answers s items
  | retireBerth items => exact execRetireBerth_answers s items
  | lookupBerth items => exact execLookupBerth_answers s items
  | findOccupant items => exact execFindOccupant_answers s items
  | listOccupied items => exact execListOccupied_answers s items
  | announce items => exact execAnnounce_answers s items
  | endAnnounce items => exact execEndAnnounce_answers s items
  | cancelAnnounce items => exact execCancelAnnounce_answers s items
  | releaseAnnounce items => exact execReleaseAnnounce_answers s items
  | lookupAnnounce items => exact execLookupAnnounce_answers s items
  | listAnnounce items => exact execListAnnounce_answers s items
  | setPolicy items => exact execSetPolicy_answers s items
  | readPolicy items => exact execReadPolicy_answers s items
  | setQuiet items => exact execSetQuiet_answers s items
  | lightsOut items => exact execLightsOut_answers s items
  | routeProgressApproach items => exact routeRequest_answers s items
  | routeProgressArrive items => exact routeRequest_answers s items
  | routeProgressDepart items => exact routeRequest_answers s items
  | setWakeProfile items => exact execSetWakeProfile_answers s items
  | readWakeProfile items => exact execReadWakeProfile_answers s items
  | wakeCancel items => exact execWakeCancel_answers s items
  | setButtonWindow items => exact execSetButtonWindow_answers s items
  | callNext items => exact execCallNext_answers s items
  | callList items => exact execCallList_answers s items
  | callAttend items => exact execCallAttend_answers s items
  | callClose items => exact execCallClose_answers s items
  | alertRaise items => exact execAlertRaise_answers s items
  | alertClear items => exact execAlertClear_answers s items
  | resume items => exact execResume_answers s items
  | setAlertConfig items => exact execSetAlertConfig_answers s items
  | readAlert items => exact execReadAlert_answers s items
  | portPower items => exact execPortPower_answers s items
  | portConfig items => exact execPortConfig_answers s items
  | portQuery items => exact execPortQuery_answers s items
  | setPortTiming items => exact execSetPortTiming_answers s items
  | setPollMode items => exact execSetPollMode_answers s items
  | setPollTimeout items => exact execSetPollTimeout_answers s items
  | readPoll items => exact execReadPoll_answers s items
  | configureFeed items => exact execConfigureFeed_answers s items
  | unconfigureFeed items => exact execUnconfigureFeed_answers s items
  | feedQuery items => exact execFeedQuery_answers s items
  | setFeedStall items => exact execSetFeedStall_answers s items
  | partReset items => exact afterReset_answers s s.pins
  | tripReset items => exact execTripReset_answers s items
  | setEventEnables items => exact execSetEventEnables_answers s items
  | readSummary items => exact execReadSummary_answers s items
  | readBerthEvents items => exact execReadBerthEvents_answers s items
  | ackBerthEvents items => exact execAckBerthEvents_answers s items
  | ackCoachEvents items => exact execAckCoachEvents_answers s items
  | setDigest items => exact execSetDigest_answers s items
  | readDigest items => exact execReadDigest_answers s items
  | response d late frame => exact execResponse_answers s d late frame
  | responseTimerExpiry e => exact execResponseTimerExpiry_answers s e
  | presenceRise p => exact execPresenceRise_answers s p
  | presenceFall p => exact execPresenceFall_answers s p
  | powerFault p asserted => exact execPowerFault_answers s p asserted
  | powerGood p => exact execPowerGood_answers s p
  | powerGoodTimerExpiry e => exact execPowerGoodTimerExpiry_answers s e
  | dischargeEnd e => exact execDischargeEnd_answers s e
  | linkTimerExpiry e => exact execLinkTimerExpiry_answers s e
  | alertInEdge level => exact execAlertInEdge_answers s level
  | inactivityExpiry e => exact execInactivityExpiry_answers s e
  | windowExpiry e => exact execWindowExpiry_answers s e
  | stepBoundary e => exact execStepBoundary_answers s e
  | stage1Expiry e => exact execStage1Expiry_answers s e
  | stage2Expiry e => exact execStage2Expiry_answers s e
  | leadInEnd e => exact execLeadInEnd_answers s e
  | durationExpiry e => exact execDurationExpiry_answers s e
  | gapExpiry e => exact execGapExpiry_answers s e
  | stallTimerExpiry e => exact execStallTimerExpiry_answers s e
  | dataFrame bytes => exact mediaFrame_answers s bytes
  | endFrame bytes => exact mediaFrame_answers s bytes
  | walkComplete => exact execWalkComplete_answers s
  | coachClockTick => exact execCoachClockTick_answers s

/-- A property of `s` with other values for what idling changes is one of any `t` it idles to. -/
theorem State.Idles.elim {s t : State} (h : s.Idles t) {motive : State → Prop}
    (hmotive : ∀ pending reply miso free clock level fault, motive { s with
      pending := pending, reply := reply, miso := miso, free := free, clock := clock
      alert := { s.alert with level := level }, senses := { s.senses with fault := fault } }) : motive t := by
  rw [h]
  exact hmotive ..

/-- What a step can do: from the state with the rest of the queue, what its command can do. -/
theorem step_after {s t : State} (h : step s = .next t) : ∃ s', s.Idles s' ∧ s'.After t := by
  unfold step at h
  split at h
  · cases h; exact ⟨s, rfl, .inl rfl⟩
  · next c rest _ => exact ⟨{ s with pending := rest }, rfl, exec_answers c _ t h⟩

/-- A property that idling, every effect and the settling keep is kept by every step. -/
theorem State.kept_of_effects {I : State → Prop} (hidle : ∀ s t, s.Idles t → I s → I t)
    (heffect : ∀ s u, s.Effect u → I s → I u) (hsettle : ∀ u, I u → I u.settle) :
    ∀ s t, I s → step s = .next t → I t := by
  intro s t hs hstep
  obtain ⟨s', hidles, hafter⟩ := step_after hstep
  have hs' := hidle s s' hidles hs
  rcases hafter with hidles' | ⟨u, hu, ht⟩
  · exact hidle s' t hidles' hs'
  · rw [ht]
    exact hidle u.settle _ rfl (hsettle u (heffect s' u hu hs'))

end Sys2Proof.Machine
end

section
/-! SUPPORT. What is recomputed at every event: a settled state is coherent (spec/02 R31, 04 R74, 12 R177). -/

namespace Sys2Proof.Machine

open Sys2Proof

/-- A settled state is coherent, whatever the event was. -/
theorem State.settle_coherent (u : State) : u.settle.Coherent := by
  have hsettled := u.settle_settledFrom
  refine ⟨fun p => by rw [hsettled.ports], fun h a ha hplaying p hp => ?_, by rw [hsettled.events]⟩
  rw [hsettled.roster, Roster.depart_rec, Option.mem_def, Option.map_eq_some_iff] at ha
  obtain ⟨b, -, rfl⟩ := ha
  rw [Ann.depart_state] at hplaying
  simp only [Ann.depart, hplaying, if_true, List.mem_filter, Option.any_eq_true, PortRec.desires] at hp
  obtain ⟨-, c, hc, d, hd, hcarries⟩ := hp
  exact ⟨c, d, by rw [Ann.depart_channel, hc], hd, of_decide_eq_true hcarries⟩

/-- Idling changes no input of the Resolver, no record and no flag. -/
theorem State.Idles.coherent {s t : State} (h : s.Idles t) (hs : s.Coherent) : t.Coherent := h.elim fun _ _ _ _ _ _ _ => hs

end Sys2Proof.Machine
end

section
/-! PROOF. What every step keeps of presentations and ATTN (spec/02, 04, 12). -/

namespace Sys2Proof.Proofs

open Sys2Proof Sys2Proof.Machine

/-- Settles O6: a step idles, which changes nothing that is read, or ends in a settled state. -/
theorem coherentKept : Obligations.CoherentKept := by
  intro s t hs hstep
  obtain ⟨s', hidles, hidles' | ⟨u, -, ht⟩⟩ := step_after hstep
  · exact hidles'.coherent (hidles.coherent hs)
  · rw [ht]
    exact State.Idles.coherent (s := u.settle) rfl u.settle_coherent

end Sys2Proof.Proofs
end

section
/-! SUPPORT. The Berth Table and what stands beside it: which effects leave it alone, and how a law of it is kept by every
step (spec/01, 05, 06, 07; 12 R178). -/

namespace Sys2Proof.Machine

open Sys2Proof

/-- `u` has the berth records, Call List, wake profiles, quiet mode, alert state and digest of `s`. -/
structure State.SameTable (s u : State) : Prop where
  slots : u.slots = s.slots
  quiet : u.quiet = s.quiet
  alert : u.alert.state = s.alert.state
  calls : u.calls = s.calls
  wake : u.wake = s.wake
  digest : u.digest = s.digest

namespace State.SameTable

theorem refl (s : State) : s.SameTable s := ⟨rfl, rfl, rfl, rfl, rfl, rfl⟩

theorem trans {s t u : State} (h : s.SameTable t) (k : t.SameTable u) : s.SameTable u :=
  ⟨k.slots.trans h.slots, k.quiet.trans h.quiet, k.alert.trans h.alert, k.calls.trans h.calls, k.wake.trans h.wake,
    k.digest.trans h.digest⟩

variable (s : State)

theorem mapPort (p : Port) (f : PortRec → PortRec) : s.SameTable (s.mapPort p f) := ⟨rfl, rfl, rfl, rfl, rfl, rfl⟩

theorem mapPoller (d : Deck) (f : Poller → Poller) : s.SameTable (s.mapPoller d f) := by constructor <;> simp

theorem flagCoach (k : CoachKind) : s.SameTable (s.flagCoach k) := ⟨rfl, rfl, rfl, rfl, rfl, rfl⟩

theorem flagPorts (k : BerthKind) (ps : PortSet) : s.SameTable (s.flagPorts k ps) := by constructor <;> simp

theorem atDesk (f : State → Desk → Desk) : s.SameTable (s.atDesk f) := ⟨rfl, rfl, rfl, rfl, rfl, rfl⟩

theorem refresh : s.SameTable s.refresh := by constructor <;> simp

theorem judgeAttn : s.SameTable s.judgeAttn := ⟨rfl, rfl, rfl, rfl, rfl, rfl⟩

theorem settle : s.SameTable s.settle := (refresh s).trans (judgeAttn _)

theorem sensePresence (p : Port) (high : Bool) : s.SameTable (s.sensePresence p high) := ⟨rfl, rfl, rfl, rfl, rfl, rfl⟩

theorem senseFault (p : Port) (asserted : Bool) : s.SameTable (s.senseFault p asserted) :=
  ⟨rfl, rfl, rfl, rfl, rfl, rfl⟩

theorem startTurn (d : Deck) : s.SameTable (s.startTurn d) := by constructor <;> simp

theorem nextTurn (d : Deck) : s.SameTable (s.nextTurn d) :=
  ((refresh s).trans (mapPoller _ d _)).trans (startTurn _ d)

theorem setMode (m : PollMode) (d : Deck) : s.SameTable (s.setMode m d) := by
  unfold State.setMode
  split
  · exact mapPoller s d _
  · exact (mapPoller s d _).trans (startTurn _ d)

theorem wakePoller (d : Deck) : s.SameTable (s.wakePoller d) := by
  unfold State.wakePoller
  dsimp only
  split
  · exact startTurn s d
  · exact refl s

theorem dropPort (p : Port) (f : PortRec → PortRec) : s.SameTable (s.dropPort p f) :=
  (mapPort s p f).trans (mapPoller _ _ _)

theorem endPlayout (f : FeedIx) (reach : Bool) : s.SameTable (s.endPlayout f reach) := by
  unfold State.endPlayout
  split
  · exact refl s
  · exact atDesk s _

theorem mapFeed (f : FeedIx) (g : Feed → Feed) : s.SameTable (s.mapFeed f g) := ⟨rfl, rfl, rfl, rfl, rfl, rfl⟩

theorem readSenses : s.SameTable s.readSenses := by
  unfold State.readSenses
  suffices h : ∀ (l : List Port) (t : State), s.SameTable t →
      s.SameTable (l.foldl (fun t p => if s.senses.presence[p] then t.rise p else t) t) from h _ s (refl s)
  intro l
  induction l with
  | nil => exact fun t h => h
  | cons p l ih =>
    intro t h
    refine ih _ ?_
    dsimp only
    split
    · exact h.trans (mapPort t p _)
    · exact h

end State.SameTable

theorem State.Idles.sameTable {s t : State} (h : s.Idles t) : s.SameTable t :=
  h.elim fun _ _ _ _ _ _ _ => ⟨rfl, rfl, rfl, rfl, rfl, rfl⟩

theorem State.DeskEffect.sameTable {s u : State} (h : s.DeskEffect u) : s.SameTable u := by
  cases h with
  | announce | endAnnounce | cancelAnnounce | leadInEnd | durationExpiry | gapExpiry => exact .atDesk s _
  | releaseAnnounce => exact ⟨rfl, rfl, rfl, rfl, rfl, rfl⟩
  | configureFeed => exact .mapFeed s _ _
  | unconfigureFeed f => exact (State.SameTable.mapFeed s f _).trans (.endPlayout _ f _)
  | stall f =>
    exact ((State.SameTable.mapFeed s f _).trans (.flagCoach _ _)).trans (.endPlayout _ f _)
  | dataTaken g =>
    unfold State.dataTaken
    dsimp only
    split <;> exact ⟨rfl, rfl, rfl, rfl, rfl, rfl⟩
  | endTaken g =>
    unfold State.endTaken
    split
    · exact (State.SameTable.mapFeed s _ _).trans (.endPlayout _ _ _)
    · exact .refl s

theorem State.LineEffect.sameTable {s u : State} (h : s.LineEffect u) : s.SameTable u := by
  cases h with
  | portPower q =>
    unfold State.portPower
    dsimp only
    split <;> split
    · exact .mapPort s _ _
    · exact .mapPort s _ _
    · exact .dropPort s _ _
    · exact .mapPort s _ _
  | portConfig | ackBerthEvents => exact .mapPort s _ _
  | setPollMode q =>
    suffices h : ∀ (l : List Deck) (t : State), t.SameTable (l.foldl (fun t d => t.setMode q.mode d) t) from h _ s
    intro l
    induction l with
    | nil => exact .refl
    | cons d l ih => exact fun t => (State.SameTable.setMode t q.mode d).trans (ih _)
  | presenceRise p => exact (State.SameTable.sensePresence s p true).trans (.mapPort _ p _)
  | presenceFall p => exact (State.SameTable.sensePresence s p false).trans (.dropPort _ p _)
  | powerFault p => exact (State.SameTable.senseFault s p true).trans (.dropPort _ p _)
  | powerGood p => exact ((State.SameTable.mapPort s p _).trans (.refresh _)).trans (.wakePoller _ _)
  | powerGoodExpiry | dischargeEnd | linkExpiry => exact .dropPort s _ _

theorem State.RegisterEffect.sameTable {s u : State} (h : s.RegisterEffect u) : s.SameTable u := by
  cases h <;> exact ⟨rfl, rfl, rfl, rfl, rfl, rfl⟩

/-! ### The end of a turn -/

/-- A property that presses keep: the answer of a ringing berth, a press of another, and the removal of a call. -/
theorem State.presses_induction {I : State → Prop} (p : Port)
    (hport : ∀ s f, I s → I (s.mapPort p f))
    (hanswer : ∀ s b, s.slots[p] = some b → b.image.state = .waking → I s → I (s.answerCall p))
    (hclaim : ∀ s b f after, s.slots[p] = some b → b.image.state ≠ .waking →
      f = Image.active ∨ f = Image.doublePress s.alert.state → I s → I (s.pressClaim p f after))
    (hdrop : ∀ s, I s → I (s.dropCall p)) (n : Nat) : ∀ s, I s → I (s.presses p n) := by
  induction n with
  | zero => exact fun s hs => hs
  | succ n ih =>
    intro s hs
    unfold State.presses
    split
    · exact hs
    · next b hslot =>
      split
      · next hwaking => exact hanswer s b hslot hwaking hs
      · next hwaking =>
        refine ih _ ?_
        unfold State.press
        split
        · exact hport _ _ (hdrop _ (hclaim s b _ _ hslot hwaking (.inl rfl) hs))
        · split
          · exact hclaim s b _ _ hslot hwaking (.inl rfl) hs
          · exact hclaim s b _ _ hslot hwaking (.inr rfl) hs

/-- A property that one passenger request keeps is kept by those of a Response. -/
theorem State.passengers_induction {I : State → Prop} (p : Port)
    (hone : ∀ s code value, I s → I (s.passenger p code value).2) (l : List (Byte × Byte)) :
    ∀ s, I s → I (s.passengers p l).2 := by
  induction l with
  | nil => exact fun s hs => hs
  | cons q rest ih => exact fun s hs => ih _ (hone s q.1 q.2 hs)

/-- A property that no change of a port record touches, and that presses and passenger requests keep, is kept by whatever
the end of a turn does. -/
theorem State.turnResult_induction {I : State → Prop} (hport : ∀ s p f, I s → I (s.mapPort p f))
    (hpresses : ∀ s p n, I s → I (s.presses p n)) (hpassengers : ∀ s p l, I s → I (s.passengers p l).2)
    (t : Turn) (report : Option UnitReport) (s : State) (hs : I s) : I (s.turnResult t report) := by
  unfold State.turnResult
  split
  · exact hs
  · split
    · next rep =>
      unfold State.takeGood
      split
      · exact hport _ _ _ hs
      · unfold State.takeReport
        split
        · exact hport _ _ _ hs
        · have htold := hpresses _ t.port (newPresses s.ports[t.port].baseline rep.presses)
            (hport s t.port (PortRec.takeReport rep) hs)
          unfold State.takeRequests
          dsimp only
          split
          · exact htold
          · exact hport _ _ _ (hpassengers _ _ _ htold)
    · unfold State.missTurn
      split
      · exact hs
      · exact hport _ _ _ hs

/-! ### A law of the table -/

/-- A law of the Berth Table and what stands beside it, kept by each command that touches them. -/
structure State.TableLaw (I : State → Prop) : Prop where
  congr : ∀ s u, s.SameTable u → I s → I u
  blank : ∀ pins, I (State.blank pins)
  tripReset : ∀ s, s.alert.state = .clear → I s → I s.tripReset
  retireBerth : ∀ s p, I s → I (s.retireBerth p)
  alertEntry : ∀ s, s.alert.state ≠ .active → I s → I s.alertEntry
  answerCall : ∀ s p b, s.slots[p] = some b → b.image.state = .waking → I s → I (s.answerCall p)
  pressClaim : ∀ s p b f after, s.slots[p] = some b → b.image.state ≠ .waking →
    f = Image.active ∨ f = Image.doublePress s.alert.state → I s → I (s.pressClaim p f after)
  dropCall : ∀ s p, I s → I (s.dropCall p)
  passenger : ∀ s p code value, I s → I (s.passenger p code value).2
  table : ∀ s u, s.TableEffect u → I s → I u

theorem State.TableLaw.turnResult {I : State → Prop} (hI : State.TableLaw I) (s : State) (t : Turn)
    (report : Option UnitReport) (hs : I s) : I (s.turnResult t report) := by
  have hport : ∀ s p f, I s → I (s.mapPort p f) := fun s p f => hI.congr _ _ (.mapPort s p f)
  refine State.turnResult_induction hport (fun s p n => ?_) (fun s p l => ?_) t report s hs
  · exact State.presses_induction p (fun s f => hport s p f) (fun s b => hI.answerCall s p b)
      (fun s b f after => hI.pressClaim s p b f after) (fun s => hI.dropCall s p) n s
  · exact State.passengers_induction p (fun s code value => hI.passenger s p code value) l s

/-- A law of the table is kept by every step. -/
theorem State.TableLaw.kept {I : State → Prop} (hI : State.TableLaw I) : ∀ s t, I s → step s = .next t → I t := by
  refine State.kept_of_effects (fun s t h => hI.congr s t h.sameTable) ?_ fun u => hI.congr _ _ (.settle u)
  intro s u hu hs
  cases hu with
  | reset pins => exact hI.congr _ _ (.readSenses _) (hI.congr (State.blank pins) _ ⟨rfl, rfl, rfl, rfl, rfl, rfl⟩ (hI.blank pins))
  | tripReset hclear => exact hI.tripReset s hclear hs
  | retireBerth p => exact hI.retireBerth s p hs
  | alertEntry level hinactive =>
    exact hI.alertEntry _ hinactive (hI.congr s _ ⟨rfl, rfl, rfl, rfl, rfl, rfl⟩ hs)
  | turn d t report hturn => exact hI.congr _ _ (.nextTurn _ d) (hI.turnResult s t report hs)
  | table h => exact hI.table s u h hs
  | desk h => exact hI.congr s u h.sameTable hs
  | line h => exact hI.congr s u h.sameTable hs
  | register h => exact hI.congr s u h.sameTable hs

end Sys2Proof.Machine
end

section
/-! SUPPORT. What each change of an open berth keeps: its occupant reference, and its lawfulness (spec/01 R3; 05 R90, R91; 06
R99, R103; 07 R115). -/

namespace Sys2Proof.Machine

open Sys2Proof

/-- The berth `c` stands in the slot of `b`, under the quiet mode and alert state after the change. -/
structure Berth.Keeps (mode : QuietMode) (alert : AlertState) (mode' : QuietMode) (alert' : AlertState) (b c : Berth) :
    Prop where
  ref : c.image.ref = b.image.ref
  lawful : b.Lawful mode alert → c.Lawful mode' alert'

/-! ### Claims -/

section

variable {m m' : QuietMode} {al al' : AlertState} {b : Berth} {load : Reload} {act : Bool} {f : Image → Image}

theorem Image.runs_of_not_clear {i : Image} (h : al ≠ .clear) : i.runs al = false := by simp [Image.runs, h]

/-- The timer law after a claim, where it held before, or where the alert is not CLEAR. -/
theorem Berth.claim_timer (h : b.timer.isSome = b.image.runs al ∨ al ≠ .clear) :
    (b.claim al load act f).timer.isSome = (b.claim al load act f).image.runs al := by
  rcases h with h | h
  · exact nextTimer_isSome h
  · simp [Berth.claim, Image.runs_of_not_clear h]

/-- A claim keeps a berth lawful if it leaves WAKING and ringing together as they were, and idle only where allowed. -/
theorem Berth.Lawful.claim (hb : b.Lawful m al) (hal : al' = al ∨ al' ≠ .clear)
    (hstate : (f b.image).state = .waking ↔ b.image.state = .waking)
    (hwake : (f b.image).wake.ringing = b.image.wake.ringing)
    (hidle : (f b.image).idle = true → (f b.image).state = .awake ∧ m' = .day) :
    (b.claim al' load act f).Lawful m' al' where
  waking := by rw [claim_image, Image.advance_state, Image.advance_wake, hstate, hwake]; exact hb.waking
  ramp := by rw [claim_image, Image.advance_state, hstate]; exact hb.ramp
  idle := by rw [claim_image, Image.advance_idle, Image.advance_state]; exact hidle
  button := by rw [claim_image, Image.advance_state, Ne, hstate]; exact hb.button
  timer := claim_timer (hal.imp_left fun h => by rw [h]; exact hb.timer)

/-- The button of a lawful berth returns to IDLE, or is ARMED while the berth is not WAKING. -/
theorem Berth.Lawful.with_button (hb : b.Lawful m al) {button : Button}
    (h : button = .idle ∨ b.image.state ≠ .waking) : Berth.Lawful m al { b with button := button } :=
  ⟨hb.waking, hb.ramp, hb.idle, h, hb.timer⟩

/-- A lawful berth in WAKING is lawful whatever its running ramp. -/
theorem Berth.Lawful.with_ramp (hb : b.Lawful m al) {ramp : Option Ramp} (h : ramp.isSome = b.ramp.isSome) :
    Berth.Lawful m al { b with ramp := ramp } :=
  ⟨hb.waking, by rw [h]; exact hb.ramp, hb.idle, hb.button, hb.timer⟩

/-- Outside alert CLEAR no timer runs, whichever of the other two states stands. -/
theorem Berth.Lawful.of_alert (hb : b.Lawful m al) (h : al ≠ .clear) (h' : al' ≠ .clear) : b.Lawful m al' :=
  ⟨hb.waking, hb.ramp, hb.idle, hb.button, by rw [hb.timer, Image.runs_of_not_clear h, Image.runs_of_not_clear h']⟩

/-- A change to DAY allows every berth that was lawful. -/
theorem Berth.Lawful.to_day (hb : b.Lawful m al) : b.Lawful .day al :=
  ⟨hb.waking, hb.ramp, fun h => ⟨(hb.idle h).1, rfl⟩, hb.button, hb.timer⟩

end

/-! ### The changes of a record -/

theorem Image.active_state_waking (i : Image) : i.active.state = .waking ↔ i.state = .waking := by
  unfold Image.active
  cases h : i.state <;> simp

theorem Image.doublePress_state_waking {alert : AlertState} {i : Image} (h : i.state ≠ .waking) :
    (i.doublePress alert).state ≠ .waking := by
  unfold Image.doublePress
  split
  · simp [Image.toNight]
  · rwa [Ne, Image.active_state_waking]

@[simp] theorem Image.doublePress_wake (alert : AlertState) (i : Image) : (i.doublePress alert).wake = i.wake := by
  unfold Image.doublePress; split <;> rfl

@[simp] theorem Image.doublePress_idle (alert : AlertState) (i : Image) : (i.doublePress alert).idle = false := by
  unfold Image.doublePress; split <;> rfl

@[simp] theorem Image.doublePress_ref (alert : AlertState) (i : Image) : (i.doublePress alert).ref = i.ref := by
  unfold Image.doublePress; split <;> rfl

/-- A change set moves neither the berth state nor idle, and touches no ringing call it is allowed on (01 R12, R15). -/
theorem Changes.apply_fields (c : Changes) (i : Image) :
    (c.apply i).ref = i.ref ∧ (c.apply i).state = i.state ∧ (c.apply i).idle = i.idle := by
  unfold Changes.apply
  dsimp only
  split <;> exact ⟨rfl, rfl, rfl⟩

theorem Changes.apply_ringing {c : Changes} {i : Image} (h : c.meetsRinging i = false) :
    (c.apply i).wake.ringing = i.wake.ringing := by
  unfold Changes.apply
  dsimp only
  split
  · next hnames =>
    have hsilent : i.wake.ringing = false := by simpa [Changes.meetsRinging, hnames] using h
    rw [hsilent]
    simp only [Image.deriveWake]
    split <;> rfl
  · rfl

/-- What a passenger request makes of the record, before its activity: state, idle and wake status are untouched. -/
theorem State.requestEffect_fields {s : State} {p : Port} {i j : Image} {q : PassengerRequest} {v : Verdict}
    (h : s.requestEffect p i q = some (v, j)) : j.ref = i.ref ∧ j.state = i.state ∧ j.wake = i.wake := by
  cases q with
  | selectProgram program =>
    cases program with
    | none => cases h; exact ⟨rfl, rfl, rfl⟩
    | some c =>
      simp only [State.requestEffect] at h
      split at h
      · cases h
      · cases h; exact ⟨rfl, rfl, rfl⟩
  | setLanguage l => cases h; exact ⟨rfl, rfl, rfl⟩
  | setVolume v =>
    simp only [State.requestEffect] at h
    split at h <;> (cases h; exact ⟨rfl, rfl, rfl⟩)
  | stepVolume up => cases h; exact ⟨rfl, rfl, rfl⟩

/-! ### Which changes keep a berth -/

section

variable {m m' : QuietMode} {al al' : AlertState} {b : Berth} {load : Reload} {act : Bool} {f : Image → Image}

theorem Berth.Keeps.refl (b : Berth) : b.Keeps m al m al b := ⟨rfl, id⟩

theorem Berth.keeps_claim (href : (f b.image).ref = b.image.ref)
    (hstate : (f b.image).state = .waking ↔ b.image.state = .waking)
    (hwake : (f b.image).wake.ringing = b.image.wake.ringing)
    (hidle : b.Lawful m al → (f b.image).idle = true → (f b.image).state = .awake ∧ m' = .day) :
    b.Keeps m al m' al (b.claim al load act f) :=
  ⟨by rw [claim_image, Image.advance_ref, href], fun hb => hb.claim (.inl rfl) hstate hwake (hidle hb)⟩

theorem Berth.keeps_amend {c : Changes} (h : c.meetsRinging b.image = false) :
    b.Keeps m al m al (b.claim al load act c.apply) := by
  obtain ⟨href, hstate, hidle⟩ := c.apply_fields b.image
  exact keeps_claim href (by rw [hstate]) (Changes.apply_ringing h) fun hb => by rw [hidle, hstate]; exact hb.idle

/-- Moves to NIGHT are made of AWAKE berths. -/
theorem Berth.keeps_sleep (g : Image → Bool) (hg : ∀ i, g i = true → i.state = .awake)
    (hidle : ∀ i, g i = false → i.idle = true → i.state = .awake → m' = .day ∨ m = .quiet) :
    b.Keeps m al m' al (b.claim al load act fun i => if g i then i.toNight else i) := by
  by_cases h : g b.image = true
  · refine keeps_claim ?_ ?_ ?_ fun _ => ?_ <;> simp [h, Image.toNight, hg _ h]
  · refine keeps_claim ?_ ?_ ?_ fun hb => ?_
    · simp [h]
    · simp [h]
    · simp [h]
    · simp only [h]
      intro hi
      obtain ⟨hawake, hday⟩ := hb.idle hi
      refine ⟨hawake, (hidle _ (by simpa using h) hi hawake).resolve_right ?_⟩
      rw [hday]; simp

theorem Berth.keeps_active {after : Button} (hafter : b.image.state ≠ .waking) :
    b.Keeps m al m al { b.claim al load act Image.active with button := after } := by
  have hactive : b.Keeps m al m al (b.claim al load act Image.active) :=
    keeps_claim rfl (Image.active_state_waking _) rfl fun _ h => by cases h
  refine ⟨hactive.ref, fun hb => (hactive.lawful hb).with_button (.inr ?_)⟩
  rw [claim_image, Image.advance_state, Ne, Image.active_state_waking]
  exact hafter

theorem Berth.keeps_doublePress {alert : AlertState} {after : Button} (hafter : b.image.state ≠ .waking) :
    b.Keeps m al m al { b.claim al load act (Image.doublePress alert) with button := after } := by
  have hpress := Image.doublePress_state_waking (alert := alert) hafter
  have hclaim : b.Keeps m al m al (b.claim al load act (Image.doublePress alert)) :=
    keeps_claim (by simp) (by simp [hafter, hpress]) (by simp) fun _ => by simp
  refine ⟨hclaim.ref, fun hb => (hclaim.lawful hb).with_button (.inr ?_)⟩
  rw [claim_image, Image.advance_state]
  exact hpress

theorem Berth.keeps_request {s : State} {p : Port} {q : PassengerRequest} {v : Verdict} {j : Image}
    (h : s.requestEffect p b.image q = some (v, j)) :
    b.Keeps m al m al (b.claim al load act fun _ => j.active) := by
  obtain ⟨href, hstate, hwake⟩ := State.requestEffect_fields h
  refine keeps_claim href ?_ (congrArg WakeStatus.ringing hwake) fun _ h => by cases h
  rw [Image.active_state_waking, hstate]

/-- The expiry of a timer that runs, which only an AWAKE berth has (05 R91, R92). -/
theorem Berth.keeps_expire (htimer : b.timer.isSome = true) :
    b.Keeps m al m al (b.claim al load act (Image.expire m)) := by
  have href : ((Image.expire m) b.image).ref = b.image.ref := by unfold Image.expire; cases m <;> rfl
  refine ⟨by rw [claim_image, Image.advance_ref, href], fun hb => ?_⟩
  have hawake : b.image.state = .awake := by
    have hruns := hb.timer.symm.trans htimer
    simp only [Image.runs, Bool.and_eq_true, decide_eq_true_eq] at hruns
    exact hruns.1.1
  refine hb.claim (.inl rfl) ?_ ?_ ?_ <;> cases m <;> simp [Image.expire, Image.toNight, hawake]

theorem Berth.keeps_disarm (harmed : b.image.wake = .armed) :
    b.Keeps m al m al (b.claim al load act Image.disarm) :=
  keeps_claim rfl Iff.rfl (by simp [Image.disarm, harmed, WakeStatus.ringing]) fun hb => hb.idle

theorem Berth.keeps_escalate {profile : Profile} (hringing : b.image.wake = .ringing1) :
    b.Keeps m al m al (b.escalate al load profile) := by
  have hclaim : b.Keeps m al m al (b.claim al load false Image.escalate) :=
    keeps_claim rfl Iff.rfl (by simp [Image.escalate, hringing, WakeStatus.ringing]) fun hb => hb.idle
  exact ⟨hclaim.ref, fun hb => (hclaim.lawful hb).with_ramp (by simp)⟩

/-- RINGING_1 starts: WAKING, ringing and a ramp together, the button IDLE (06 R103, R104). -/
theorem Berth.keeps_startRinging {profile : Profile} : b.Keeps m al m al (b.startRinging al load profile) where
  ref := by simp [startRinging, claim_image, Image.startRinging]
  lawful hb :=
    { waking := by simp [startRinging, claim_image, Image.startRinging, WakeStatus.ringing]
      ramp := by simp [startRinging, claim_image, Image.startRinging]
      idle := by simp [startRinging, claim_image, Image.startRinging]
      button := .inl rfl
      timer := claim_timer (.inl hb.timer) }

/-- A ringing call ends: AWAKE, silent and without a ramp together (06 R99, R103). -/
theorem Berth.keeps_endRinging {w : WakeStatus} (hw : w.ringing = false) :
    b.Keeps m al m al (b.endRinging al load act w) where
  ref := by simp [endRinging, claim_image, Image.endRinging]
  lawful hb :=
    { waking := by simp [endRinging, claim_image, Image.endRinging, hw]
      ramp := by simp [endRinging, claim_image, Image.endRinging]
      idle := by simp [endRinging, claim_image, Image.endRinging]
      button := .inr (by simp [endRinging, claim_image, Image.endRinging])
      timer := claim_timer (.inl hb.timer) }

/-- Alert entry rouses a NIGHT berth and stops every timer (08 R130). -/
theorem Berth.keeps_rouse : b.Keeps m al m .active (b.claim .active load act Image.rouse) where
  ref := by rw [claim_image, Image.advance_ref]; unfold Image.rouse; split <;> rfl
  lawful hb := by
    refine hb.claim (.inr (by simp)) ?_ ?_ ?_ <;> unfold Image.rouse <;> split <;> rename_i hnight
    · simp [hnight]
    · exact Iff.rfl
    · rfl
    · rfl
    · intro hidle
      have := (hb.idle hidle).1
      rw [hnight] at this; cases this
    · exact hb.idle

/-- RESUME loads the timers whose run condition holds again (08 R134). -/
theorem Berth.keeps_resume : b.Keeps m al m .clear (b.resume load) where
  ref := rfl
  lawful hb := ⟨hb.waking, hb.ramp, hb.idle, hb.button, by
    unfold resume nextTimer
    cases b.image.runs .clear <;> rfl⟩

end

/-! ### The whole table -/

/-- Each slot of `u` is open where that of `s` is, and holds the berth that stood there, changed lawfully. -/
def State.TableKept (s u : State) : Prop :=
  ∀ p : Port, Option.Rel (Berth.Keeps s.quiet s.alert.state u.quiet u.alert.state) s.slots[p] u.slots[p]

theorem State.TableKept.isOpen {s u : State} (h : s.TableKept u) (p : Port) : u.isOpen p = s.isOpen p := by
  have hrel := h p
  unfold State.isOpen
  generalize s.slots[p] = o, u.slots[p] = o' at hrel
  cases hrel with
  | some _ => rfl
  | none => rfl

theorem Berth.Keeps.trans {m m' m'' : QuietMode} {al al' al'' : AlertState} {b c d : Berth} (h : b.Keeps m al m' al' c)
    (k : c.Keeps m' al' m'' al'' d) : b.Keeps m al m'' al'' d :=
  ⟨k.ref.trans h.ref, fun hb => k.lawful (h.lawful hb)⟩

theorem State.TableKept.trans {s t u : State} (h : s.TableKept t) (k : t.TableKept u) : s.TableKept u := by
  intro p
  have hst := h p
  have htu := k p
  generalize s.slots[p] = o, t.slots[p] = o', u.slots[p] = o'' at hst htu
  cases hst with
  | none => cases htu with
    | none => exact .none
  | some hb => cases htu with
    | some hc => exact .some (hb.trans hc)

/-- The berth a slot holds after the change, from the one it held before. -/
theorem State.TableKept.berth {s u : State} (h : s.TableKept u) {p : Port} {c : Berth} (hc : u.slots[p] = some c) :
    ∃ b, s.slots[p] = some b ∧ b.Keeps s.quiet s.alert.state u.quiet u.alert.state c := by
  have hrel := h p
  rw [hc] at hrel
  generalize s.slots[p] = o at hrel
  cases hrel with
  | some hkeeps => exact ⟨_, rfl, hkeeps⟩

theorem State.TableKept.refsDistinct {s u : State} (h : s.TableKept u) (hs : s.RefsDistinct) : u.RefsDistinct := by
  intro p q b hb c hc href
  obtain ⟨b', hb', hkb⟩ := h.berth hb
  obtain ⟨c', hc', hkc⟩ := h.berth hc
  exact hs p q b' hb' c' hc' (by rw [← hkb.ref, href, hkc.ref])

theorem State.TableKept.berthsLawful {s u : State} (h : s.TableKept u) (hs : s.BerthsLawful) : u.BerthsLawful := by
  intro p c hc
  obtain ⟨b, hb, hkeeps⟩ := h.berth hc
  exact hkeeps.lawful (hs p b hb)

@[simp] theorem State.mapBerths_quiet (s : State) (f : Port → Berth → Berth) : (s.mapBerths f).quiet = s.quiet :=
  s.putSlots_quiet _

@[simp] theorem State.mapBerths_alert (s : State) (f : Port → Berth → Berth) : (s.mapBerths f).alert = s.alert :=
  s.putSlots_alert _

theorem State.tableKept_mapBerths {s t u : State} {f : Port → Berth → Berth} (hbase : t.slots = s.slots)
    (hslots : u.slots = (t.mapBerths f).slots)
    (hf : ∀ (p : Port) (b : Berth), s.slots[p] = some b →
      b.Keeps s.quiet s.alert.state u.quiet u.alert.state (f p b)) : s.TableKept u := by
  intro p
  rw [hslots, State.mapBerths_slots_get, hbase]
  cases hb : s.slots[p] with
  | none => exact .none
  | some b => exact .some (hf p b hb)

theorem State.tableKept_mapBerth {s u : State} {p : Port} {f : Berth → Berth} (hslots : u.slots = (s.mapBerth p f).slots)
    (hquiet : u.quiet = s.quiet) (halert : u.alert.state = s.alert.state)
    (hf : ∀ b, s.slots[p] = some b → b.Keeps s.quiet s.alert.state s.quiet s.alert.state (f b)) : s.TableKept u := by
  intro q
  rw [hslots, hquiet, halert, State.mapBerth_slots_get]
  split
  · next e =>
    subst e
    cases hb : s.slots[q] with
    | none => exact .none
    | some b => exact .some (hf b hb)
  · cases s.slots[q] with
    | none => exact .none
    | some b => exact .some (.refl b)

theorem State.tableKept_of_slots {s u : State} (hslots : u.slots = s.slots)
    (hkept : ∀ b : Berth, b.Keeps s.quiet s.alert.state u.quiet u.alert.state b) : s.TableKept u := by
  intro p
  rw [hslots]
  cases s.slots[p] with
  | none => exact .none
  | some b => exact .some (hkept b)

/-- What leaves the table alone keeps it. -/
theorem State.SameTable.tableKept {s u : State} (h : s.SameTable u) : s.TableKept u :=
  State.tableKept_of_slots h.slots fun b => by rw [h.quiet, h.alert]; exact .refl b

theorem State.tableKept_pressClaim {s : State} {p : Port} {b : Berth} {f : Image → Image} {after : Button}
    (hslot : s.slots[p] = some b) (hwaking : b.image.state ≠ .waking)
    (hf : f = Image.active ∨ f = Image.doublePress s.alert.state) : s.TableKept (s.pressClaim p f after) := by
  refine State.tableKept_mapBerth rfl rfl rfl fun c hc => ?_
  rw [hslot] at hc; cases hc
  rcases hf with rfl | rfl
  · exact Berth.keeps_active hwaking
  · exact Berth.keeps_doublePress hwaking

theorem State.tableKept_answerCall (s : State) (p : Port) : s.TableKept (s.answerCall p) := by
  refine State.tableKept_mapBerth (by simp only [State.answerCall, State.copyIfIdle_slots]; rfl)
    (by simp only [State.answerCall, State.copyIfIdle_quiet]; rfl)
    (by simp only [State.answerCall, State.copyIfIdle_alert]; rfl) fun b _ => ?_
  have hend := Berth.keeps_endRinging (m := s.quiet) (al := s.alert.state) (b := b) (load := s.policy.load)
    (act := true) (w := .answered) rfl
  exact ⟨hend.ref, fun hb => (hend.lawful hb).with_button (.inl rfl)⟩

theorem State.tableKept_passenger (s : State) (p : Port) (code value : Byte) :
    s.TableKept (s.passenger p code value).2 := by
  unfold State.passenger
  split
  · exact (State.SameTable.refl s).tableKept
  · next b hslot =>
    split
    · exact (State.SameTable.refl s).tableKept
    · next q _ =>
      split
      · exact (State.SameTable.refl s).tableKept
      · split
        · exact (State.SameTable.refl s).tableKept
        · next v i heffect =>
          refine State.tableKept_mapBerth rfl rfl rfl fun c hc => ?_
          rw [hslot] at hc; cases hc
          exact Berth.keeps_request heffect

theorem State.tableKept_alertEntry (s : State) : s.TableKept s.alertEntry := by
  refine State.tableKept_mapBerths (t := (s.alertTo .active).flagCoach .alert) rfl
    (by rw [State.alertEntry, State.atDesk_slots, State.claimAll]) fun _ b _ => ?_
  rw [State.alertEntry, State.atDesk_quiet, State.atDesk_alert, State.claimAll, State.mapBerths_quiet,
    State.mapBerths_alert]
  exact Berth.keeps_rouse

theorem State.slot_of_image {s : State} {p : Port} {i : Image} (h : s.image p = some i) {b : Berth}
    (hb : s.slots[p] = some b) : b.image = i := by
  simpa [State.image, hb] using h

theorem State.tableKept_ringWhere (s : State) (f : Image → Bool) : s.TableKept (s.ringWhere f) := by
  refine State.tableKept_mapBerths (t := s) rfl (by rw [State.ringWhere]) fun _ b _ => ?_
  rw [State.ringWhere, State.mapBerths_quiet, State.mapBerths_alert]
  split
  · exact Berth.keeps_startRinging
  · exact .refl b

/-- The berths of ROUTE_PROGRESS that start ringing, or whose call ends. -/
theorem State.tableKept_route (s : State) (q : RouteParams) : s.TableKept (s.route q) := by
  unfold State.route
  split
  · exact s.tableKept_ringWhere _
  · exact (s.tableKept_ringWhere _).trans (State.SameTable.flagPorts _ _ _).tableKept
  · refine State.tableKept_mapBerths (t := s) rfl
      (by rw [State.copyIfIdle_slots, State.flagPorts_slots, State.flagPorts_slots, State.departRinging])
      fun _ b _ => ?_
    rw [State.copyIfIdle_quiet, State.flagPorts_quiet, State.flagPorts_quiet, State.copyIfIdle_alert,
      State.flagPorts_alert, State.flagPorts_alert, State.departRinging, State.mapBerths_quiet, State.mapBerths_alert]
    split
    · exact Berth.keeps_endRinging rfl
    · exact .refl b

theorem State.tableKept_setQuiet (s : State) (m : QuietMode) : s.TableKept (s.setQuiet m) := by
  cases m with
  | day => exact State.tableKept_of_slots rfl fun b => ⟨rfl, fun hb => hb.to_day⟩
  | quiet =>
    refine State.tableKept_mapBerths (t := { s with quiet := .quiet }) rfl
      (by rw [State.setQuiet, State.sleepWhere, State.claimAll]) fun _ b _ => ?_
    refine Berth.keeps_sleep Image.dozing (fun i hi => Image.dozing_awake hi) fun i hi hidle hawake => ?_
    simp [Image.dozing, hidle, hawake] at hi

theorem State.tableKept_lightsOut (s : State) : s.TableKept (s.sleepWhere Image.isAwake) := by
  refine State.tableKept_mapBerths (t := s) rfl (by rw [State.sleepWhere, State.claimAll]) fun _ b _ => ?_
  refine Berth.keeps_sleep Image.isAwake (fun i hi => Image.isAwake_awake hi) fun i hi _ hawake => ?_
  simp [Image.isAwake, hawake] at hi

/-- The ringing status a ramp timer is taken in is that of the berth. -/
theorem State.wake_of_ringingStatus {s : State} {p : Port} {w : WakeStatus} (h : s.ringingStatus p = some w) {b : Berth}
    (hb : s.slots[p] = some b) : b.image.wake = w := by
  simp only [State.ringingStatus, hb, Option.bind_some, Option.map_eq_some_iff] at h
  obtain ⟨_, -, hw⟩ := h
  exact hw

/-- Every effect on the table but the opening of a berth keeps it. -/
theorem State.TableEffect.tableKept {s u : State} (h : s.TableEffect u) :
    s.TableKept u ∨ ∃ q : OpenParams, s.isOpen q.port = false ∧ s.portOfRef q.ref = none ∧ u = s.openBerth q := by
  cases h with
  | openBerth q hvacant hnew => exact .inr ⟨q, hvacant, hnew, rfl⟩
  | amendBerth q i himage hquiet =>
    refine .inl (State.tableKept_mapBerth rfl rfl rfl fun b hb => Berth.keeps_amend ?_)
    rwa [State.slot_of_image himage hb]
  | setQuiet m => exact .inl (s.tableKept_setQuiet m)
  | lightsOut => exact .inl s.tableKept_lightsOut
  | route q => exact .inl (s.tableKept_route q)
  | setProfile p =>
    refine .inl (State.tableKept_of_slots (by rw [State.setProfile, State.copyIfIdle_slots]) fun b => ?_)
    rw [State.setProfile, State.copyIfIdle_quiet, State.copyIfIdle_alert]
    exact .refl b
  | cancelRinging p i himage hringing =>
    exact .inl (State.tableKept_mapBerth (by simp only [State.cancelRinging, State.copyIfIdle_slots]; rfl)
      (by simp only [State.cancelRinging, State.copyIfIdle_quiet]; rfl)
      (by simp only [State.cancelRinging, State.copyIfIdle_alert]; rfl) fun _ _ => Berth.keeps_endRinging rfl)
  | disarm p i himage harmed =>
    refine .inl (State.tableKept_mapBerth rfl rfl rfl fun b hb => Berth.keeps_disarm ?_)
    rw [State.slot_of_image himage hb, harmed]
  | callAttend p => exact .inl (State.tableKept_of_slots rfl fun b => .refl b)
  | callClose p => exact .inl (State.tableKept_of_slots rfl fun b => .refl b)
  | alertClear hactive =>
    refine .inl (State.tableKept_of_slots rfl fun b => ⟨rfl, fun hb => ?_⟩)
    exact hb.of_alert (by rw [hactive]; simp) (by simp [State.alertTo])
  | resume hreleased =>
    refine .inl (State.tableKept_mapBerths (t := s.alertTo .clear) rfl (by rw [State.resume]) fun _ b _ => ?_)
    rw [State.resume, State.mapBerths_quiet, State.mapBerths_alert]
    exact Berth.keeps_resume
  | inactivity p htimer =>
    refine .inl (State.tableKept_mapBerth rfl rfl rfl fun b hb => Berth.keeps_expire ?_)
    rwa [hb] at htimer
  | endWindow p harmed =>
    refine .inl (State.tableKept_mapBerth (p := p) (f := fun b => { b with button := .idle })
      (by rw [State.endWindow, State.raiseCall_slots])
      (by rw [State.endWindow, State.raiseCall_quiet]; rfl) (by rw [State.endWindow, State.raiseCall_alert]; rfl)
      fun b _ => ⟨rfl, fun hb => hb.with_button (.inl rfl)⟩)
  | stepRamp p =>
    exact .inl (State.tableKept_mapBerth (s := s) (f := fun b => { b with
      ramp := b.ramp.map (Ramp.step s.wake.copyWaiting.active b.image.wake) }) rfl rfl rfl fun b _ =>
        ⟨rfl, fun hb => hb.with_ramp (by simp)⟩)
  | stage1 p hstage =>
    exact .inl (State.tableKept_mapBerth (by rw [State.raiseCall_slots]) (by rw [State.raiseCall_quiet]; rfl)
      (by rw [State.raiseCall_alert]; rfl) fun _ hb => Berth.keeps_escalate (State.wake_of_ringingStatus hstage hb))
  | stage2 p hstage =>
    exact .inl (State.tableKept_mapBerth (by rw [State.copyIfIdle_slots]; rfl) (by rw [State.copyIfIdle_quiet]; rfl)
      (by rw [State.copyIfIdle_alert]; rfl) fun _ _ => Berth.keeps_endRinging rfl)
  | setDigest c => exact .inl (State.tableKept_of_slots rfl fun b => .refl b)
  | walkComplete w hwalk => exact .inl (State.tableKept_of_slots rfl fun b => .refl b)

end Sys2Proof.Machine
end

section
/-! SUPPORT. Which berths and calls the effects leave: the occupant references stay distinct, the berths lawful, and the Call
List lawful (spec/01 R8; 05, 06, 07). -/

namespace Sys2Proof.Machine

open Sys2Proof

/-! ### Slots that are opened or vacated -/

theorem State.openBerth_slots_get (s : State) (q : OpenParams) (p : Port) :
    (s.openBerth q).slots[p] =
      if p = q.port then some (q.berth s.alert.state s.policy.load) else s.slots[p] :=
  Vector.set_get_eq s.slots q.port p _

theorem State.retireBerth_slots (s : State) (p : Port) : (s.retireBerth p).slots = s.slots.set p.val none := by
  rw [State.retireBerth, State.copyIfIdle_slots]; rfl

theorem State.retireBerth_slots_get (s : State) (p q : Port) :
    (s.retireBerth p).slots[q] = if q = p then none else s.slots[q] := by
  rw [State.retireBerth_slots]; exact Vector.set_get_eq s.slots p q _

theorem State.tripReset_slots_get (s : State) (p : Port) : s.tripReset.slots[p] = none := by
  rw [State.tripReset, State.copyIfIdle_slots]; simp

theorem State.blank_slots_get (pins : Pins) (p : Port) : (State.blank pins).slots[p] = none := by simp [State.blank]

theorem State.portOfRef_eq_none {s : State} {ref : Nat} :
    s.portOfRef ref = none ↔ ∀ p : Port, ∀ b ∈ s.slots[p], b.image.ref ≠ ref := by
  unfold State.portOfRef
  rw [List.find?_eq_none]
  refine ⟨fun h p b hb href => h p (List.mem_finRange p) ?_, fun h p _ hany => ?_⟩
  · rw [Option.mem_def] at hb
    simp [hb, href]
  · obtain ⟨b, hb, href⟩ := (Option.any_eq_true ..).1 hany
    exact h p b hb (by simpa using href)

theorem Image.deriveWake_ref (i : Image) : i.deriveWake.ref = i.ref := rfl

theorem OpenParams.berth_ref (q : OpenParams) (alert : AlertState) (load : Reload) :
    (q.berth alert load).image.ref = q.ref := rfl

/-- A new berth is AWAKE and not idle, neither ringing nor with a ramp, and its timer runs while the alert is CLEAR (01 R9). -/
theorem OpenParams.berth_lawful (q : OpenParams) (mode : QuietMode) (alert : AlertState) (load : Reload) :
    (q.berth alert load).Lawful mode alert where
  waking := by
    simp only [berth, image, Image.deriveWake]
    split <;> simp [WakeStatus.ringing]
  ramp := by simp [berth, image, Image.deriveWake]
  idle := by simp [berth, image, Image.deriveWake]
  button := .inl rfl
  timer := by
    simp only [berth, image, Image.deriveWake, Image.runs]
    by_cases h : alert = .clear <;> simp [h]

/-! ### Occupant references -/

theorem State.refsDistinct_of_subset {s u : State} (hs : s.RefsDistinct)
    (h : ∀ (p : Port) (b : Berth), u.slots[p] = some b → s.slots[p] = some b) : u.RefsDistinct :=
  fun p q b hb c hc => hs p q b (h p b hb) c (h q c hc)

theorem State.refsDistinct_openBerth {s : State} {q : OpenParams} (hs : s.RefsDistinct)
    (hnew : s.portOfRef q.ref = none) : (s.openBerth q).RefsDistinct := by
  rw [State.portOfRef_eq_none] at hnew
  intro p p' b hb c hc href
  rw [Option.mem_def, State.openBerth_slots_get] at hb hc
  split at hb <;> split at hc
  · next hp hp' => rw [hp, hp']
  · cases hb; exact absurd href.symm (hnew p' c hc)
  · cases hc; exact absurd href (hnew p b hb)
  · exact hs p p' b hb c hc href

theorem State.refsDistinct_law : State.TableLaw State.RefsDistinct where
  congr s u h := h.tableKept.refsDistinct
  blank pins p _ b hb := by rw [Option.mem_def, State.blank_slots_get] at hb; cases hb
  tripReset s _ _ p _ b hb := by rw [Option.mem_def, State.tripReset_slots_get] at hb; cases hb
  retireBerth s p hs := State.refsDistinct_of_subset hs fun q b hb => by
    rw [State.retireBerth_slots_get] at hb
    split at hb
    · cases hb
    · exact hb
  alertEntry s _ := s.tableKept_alertEntry.refsDistinct
  answerCall s p b _ _ := (s.tableKept_answerCall p).refsDistinct
  pressClaim s p b f after hslot hwaking hf := (State.tableKept_pressClaim hslot hwaking hf).refsDistinct
  dropCall s p hs := hs
  passenger s p code value := (s.tableKept_passenger p code value).refsDistinct
  table s u h hs := by
    rcases h.tableKept with hkept | ⟨q, -, hnew, rfl⟩
    · exact hkept.refsDistinct hs
    · exact State.refsDistinct_openBerth hs hnew

/-! ### Lawful berths -/

theorem State.berthsLawful_law : State.TableLaw State.BerthsLawful where
  congr s u h := h.tableKept.berthsLawful
  blank pins p b hb := by rw [Option.mem_def, State.blank_slots_get] at hb; cases hb
  tripReset s _ _ p b hb := by rw [Option.mem_def, State.tripReset_slots_get] at hb; cases hb
  retireBerth s p hs q b hb := by
    rw [Option.mem_def, State.retireBerth_slots_get] at hb
    split at hb
    · cases hb
    · rw [State.retireBerth, State.copyIfIdle_quiet, State.copyIfIdle_alert]
      exact hs q b hb
  alertEntry s _ := s.tableKept_alertEntry.berthsLawful
  answerCall s p b _ _ := (s.tableKept_answerCall p).berthsLawful
  pressClaim s p b f after hslot hwaking hf := (State.tableKept_pressClaim hslot hwaking hf).berthsLawful
  dropCall s p hs := hs
  passenger s p code value := (s.tableKept_passenger p code value).berthsLawful
  table s u h hs := by
    rcases h.tableKept with hkept | ⟨q, -, -, rfl⟩
    · exact hkept.berthsLawful hs
    · intro p b hb
      rw [Option.mem_def, State.openBerth_slots_get] at hb
      split at hb
      · cases hb; exact q.berth_lawful _ _ _
      · exact hs p b hb

/-! ### The Call List -/

/-- A lawful list of calls over the ports whose slots are open. -/
def Call.Listed (isOpen : Port → Bool) (l : List Call) : Prop :=
  (l.map Call.port).Nodup ∧ ∀ c ∈ l, isOpen c.port = true ∧ (c.passenger || c.wake) = true

theorem State.callsLawful_iff (s : State) : s.CallsLawful ↔ Call.Listed s.isOpen s.calls := Iff.rfl

section

variable {isOpen : Port → Bool} {l : List Call}

theorem Call.Listed.mono (h : Call.Listed isOpen l) {isOpen' : Port → Bool}
    (hopen : ∀ c ∈ l, isOpen c.port = true → isOpen' c.port = true) : Call.Listed isOpen' l :=
  ⟨h.1, fun c hc => ⟨hopen c hc (h.2 c hc).1, (h.2 c hc).2⟩⟩

theorem Call.Listed.filter (h : Call.Listed isOpen l) (f : Call → Bool) : Call.Listed isOpen (l.filter f) :=
  ⟨h.1.sublist (List.filter_sublist.map Call.port), fun c hc => h.2 c (List.mem_of_mem_filter hc)⟩

/-- Entries changed in place stay listed if each keeps its port and a reason. -/
theorem Call.Listed.map (h : Call.Listed isOpen l) {f : Call → Call} (hport : ∀ c, (f c).port = c.port)
    (hreason : ∀ c, (c.passenger || c.wake) = true → ((f c).passenger || (f c).wake) = true) :
    Call.Listed isOpen (l.map f) := by
  refine ⟨?_, fun c hc => ?_⟩
  · rw [List.map_map, show Call.port ∘ f = Call.port from funext hport]
    exact h.1
  · obtain ⟨e, he, rfl⟩ := List.mem_map.1 hc
    rw [hport]
    exact ⟨(h.2 e he).1, hreason e (h.2 e he).2⟩

theorem Call.Listed.attend (h : Call.Listed isOpen l) (p : Port) :
    Call.Listed isOpen (l.map fun c => if c.port = p then { c with state := .attended } else c) := by
  refine h.map (fun c => ?_) fun c hc => ?_ <;> split <;> first | rfl | exact hc

theorem Call.Listed.raised (h : Call.Listed isOpen l) (p : Port) (r : CallReason) :
    Call.Listed isOpen (l.map fun c => if c.port = p then c.raise r else c) := by
  refine h.map (fun c => ?_) fun c hc => ?_ <;> split
  · cases r <;> rfl
  · rfl
  · cases r <;> simp [Call.raise]
  · exact hc

theorem Call.Listed.append (h : Call.Listed isOpen l) {p : Port} (hnew : ∀ c ∈ l, c.port ≠ p) (hopen : isOpen p = true)
    (r : CallReason) (clock : Count32) : Call.Listed isOpen (l ++ [Call.new p r clock]) := by
  refine ⟨?_, fun c hc => ?_⟩
  · rw [List.map_append, List.nodup_append]
    refine ⟨h.1, List.nodup_singleton _, fun x hx y hy => ?_⟩
    obtain ⟨c, hc, rfl⟩ := List.mem_map.1 hx
    rw [List.mem_singleton.1 hy]
    exact hnew c hc
  · rcases List.mem_append.1 hc with hc | hc
    · exact h.2 c hc
    · rw [List.mem_singleton.1 hc]
      exact ⟨hopen, by cases r <;> rfl⟩

/-- Removing the reason WAKE removes the entry where it was the only one (07 R121). -/
theorem Call.Listed.dropWake (h : Call.Listed isOpen l) (p : Port) :
    Call.Listed isOpen (l.filterMap fun c =>
      if c.port = p then (if c.passenger then some { c with wake := false } else none) else some c) := by
  have hfield : ∀ c d : Call,
      (if c.port = p then (if c.passenger then some { c with wake := false } else none) else some c) = some d →
        d.port = c.port ∧ ((c.passenger || c.wake) = true → (d.passenger || d.wake) = true) := by
    intro c d hd
    split at hd
    · split at hd
      · next hpass => cases hd; exact ⟨rfl, fun _ => by simp [hpass]⟩
      · cases hd
    · cases hd; exact ⟨rfl, id⟩
  refine ⟨?_, fun d hd => ?_⟩
  · refine h.1.sublist ?_
    clear h
    induction l with
    | nil => exact List.Sublist.refl _
    | cons c l ih =>
      rw [List.filterMap_cons]
      split
      · exact ih.trans (List.sublist_cons_self _ _)
      · next d hd =>
        rw [List.map_cons, List.map_cons, (hfield c d hd).1]
        exact ih.cons_cons _
  · obtain ⟨c, hc, hcd⟩ := List.mem_filterMap.1 hd
    obtain ⟨hport, hreason⟩ := hfield c d hcd
    rw [hport]
    exact ⟨(h.2 c hc).1, hreason (h.2 c hc).2⟩

end

theorem State.callOf_eq_none {s : State} {p : Port} : s.callOf p = none ↔ ∀ c ∈ s.calls, c.port ≠ p := by
  simp [State.callOf, List.find?_eq_none]

/-- The list after a call is raised for a port with an open slot. -/
theorem State.listed_raiseCall {s : State} {p : Port} (r : CallReason) {isOpen : Port → Bool}
    (h : Call.Listed isOpen s.calls) (hopen : isOpen p = true) : Call.Listed isOpen (s.raiseCall p r).calls := by
  unfold State.raiseCall
  split
  · next hnone => exact h.append (State.callOf_eq_none.1 hnone) hopen r s.clock
  · dsimp only
    split <;> exact h.raised p r

/-- A law of the Call List after a change that keeps the table. -/
theorem State.TableKept.callsLawful {s u : State} (h : s.TableKept u) (hcalls : Call.Listed s.isOpen u.calls) :
    u.CallsLawful :=
  hcalls.mono fun c _ hc => by rw [h.isOpen]; exact hc

theorem State.openBerth_isOpen {s : State} {q : OpenParams} {p : Port} (h : s.isOpen p = true) :
    (s.openBerth q).isOpen p = true := by
  unfold State.isOpen at h ⊢
  rw [State.openBerth_slots_get]
  split
  · rfl
  · exact h

@[simp] theorem State.mapBerths_calls (s : State) (f : Port → Berth → Berth) : (s.mapBerths f).calls = s.calls :=
  s.putSlots_calls _

@[simp] theorem State.sleepWhere_calls (s : State) (f : Image → Bool) : (s.sleepWhere f).calls = s.calls :=
  s.mapBerths_calls _

theorem State.route_calls (s : State) (q : RouteParams) : (s.route q).calls = s.calls := by
  unfold State.route
  split
  · rw [State.ringWhere, State.mapBerths_calls]
  · rw [State.flagPorts_calls, State.ringWhere, State.mapBerths_calls]
  · rw [State.copyIfIdle_calls, State.flagPorts_calls, State.flagPorts_calls, State.departRinging, State.mapBerths_calls]

theorem State.setQuiet_calls (s : State) (m : QuietMode) : (s.setQuiet m).calls = s.calls := by
  cases m with
  | day => rfl
  | quiet => rw [State.setQuiet, State.sleepWhere_calls]

/-- The Call List after each effect on the table, over the slots open before it. -/
theorem State.TableEffect.listed {s u : State} (h : s.TableEffect u) (hs : s.CallsLawful) :
    Call.Listed s.isOpen u.calls := by
  cases h with
  | cancelRinging p => rw [State.cancelRinging, State.copyIfIdle_calls]; exact Call.Listed.dropWake hs p
  | callAttend p => exact Call.Listed.attend hs p
  | callClose p => exact Call.Listed.filter hs _
  | endWindow p harmed =>
    refine State.listed_raiseCall .passenger hs ?_
    obtain ⟨b, hb, -⟩ := (Option.any_eq_true ..).1 harmed
    rw [State.isOpen, hb]; rfl
  | stage1 p hstage =>
    refine State.listed_raiseCall .wake hs ?_
    obtain ⟨b, hb, -⟩ := Option.bind_eq_some_iff.1 hstage
    rw [State.isOpen, hb]; rfl
  | route q => rw [State.route_calls]; exact hs
  | setProfile p => rw [State.setProfile, State.copyIfIdle_calls]; exact hs
  | setQuiet m => rw [State.setQuiet_calls]; exact hs
  | lightsOut => rw [State.sleepWhere_calls]; exact hs
  | resume => rw [State.resume, State.mapBerths_calls]; exact hs
  | stage2 p => rw [State.copyIfIdle_calls]; exact hs
  | openBerth | amendBerth | disarm | alertClear | inactivity | stepRamp | setDigest | walkComplete => exact hs

theorem State.answerCall_calls (s : State) (p : Port) : (s.answerCall p).calls = (s.dropWakeReason p).calls := by
  rw [State.answerCall, State.copyIfIdle_calls]; rfl

theorem State.passenger_calls (s : State) (p : Port) (code value : Byte) :
    (s.passenger p code value).2.calls = s.calls := by
  unfold State.passenger
  split
  · rfl
  · split
    · rfl
    · split
      · rfl
      · split <;> rfl

theorem State.callsLawful_law : State.TableLaw State.CallsLawful where
  congr s u h hs := h.tableKept.callsLawful (by rw [h.calls]; exact hs)
  blank pins := ⟨List.nodup_nil, fun c hc => by cases hc⟩
  tripReset s _ _ := by
    have hnone : s.tripReset.calls = [] := by rw [State.tripReset, State.copyIfIdle_calls]
    rw [State.callsLawful_iff, hnone]
    exact ⟨List.nodup_nil, fun c hc => by cases hc⟩
  retireBerth s p hs := by
    have hcalls : (s.retireBerth p).calls = s.calls.filter fun c => c.port != p := by
      rw [State.retireBerth, State.copyIfIdle_calls]; rfl
    rw [State.callsLawful_iff, hcalls]
    refine (Call.Listed.filter hs _).mono fun c hc hopen => ?_
    have hne : c.port ≠ p := by simpa using (List.mem_filter.1 hc).2
    rw [State.isOpen, State.retireBerth_slots_get, if_neg hne]
    exact hopen
  alertEntry s _ hs := s.tableKept_alertEntry.callsLawful (by
    rw [State.alertEntry, State.atDesk_calls, State.claimAll, State.mapBerths_calls]; exact hs)
  answerCall s p b _ _ hs := (s.tableKept_answerCall p).callsLawful (by
    rw [State.answerCall_calls]; exact Call.Listed.dropWake hs p)
  pressClaim s p b f after hslot hwaking hf hs := (State.tableKept_pressClaim hslot hwaking hf).callsLawful hs
  dropCall s p hs := Call.Listed.filter hs _
  passenger s p code value hs := (s.tableKept_passenger p code value).callsLawful (by
    rw [State.passenger_calls]; exact hs)
  table s u h hs := by
    rcases h.tableKept with hkept | ⟨q, -, -, rfl⟩
    · exact hkept.callsLawful (h.listed hs)
    · exact Call.Listed.mono hs fun c _ hc => State.openBerth_isOpen hc

end Sys2Proof.Machine
end

section
/-! PROOF. What every step keeps of the Berth Table and the Call List (spec/01, 05, 06, 07). -/

namespace Sys2Proof.Proofs

open Sys2Proof Sys2Proof.Machine

/-- Settles O7: only OPEN_BERTH writes an occupant reference, a new one, and a call is raised only for an open slot. -/
theorem refsAndCallsKept : Obligations.RefsAndCallsKept :=
  ⟨State.refsDistinct_law.kept, State.callsLawful_law.kept⟩

/-- Settles O8: every change of a record is lawful, and what moves no record leaves the quiet mode and the alert state. -/
theorem berthsLawfulKept : Obligations.BerthsLawfulKept := State.berthsLawful_law.kept

end Sys2Proof.Proofs
end

section
/-! SUPPORT. The changes of the Berth Table and of the settings leave the Roster, the feeds, the senses and the pollers alone,
and of a port record change the flags alone (spec/01, 05, 06, 07). -/

namespace Sys2Proof.Machine

open Sys2Proof

/-- `u` has the Roster, feeds, senses and pollers of `s`, and port records that differ in the flags alone. -/
structure State.SameLines (s u : State) : Prop where
  roster : u.roster = s.roster
  feeds : u.feeds = s.feeds
  senses : u.senses = s.senses
  lower : u.lower = s.lower
  upper : u.upper = s.upper
  ports : ∀ p : Port, ∃ flags, u.ports[p] = { s.ports[p] with flags := flags }

namespace State.SameLines

theorem of_ports {s u : State} (hroster : u.roster = s.roster) (hfeeds : u.feeds = s.feeds)
    (hsenses : u.senses = s.senses) (hlower : u.lower = s.lower) (hupper : u.upper = s.upper)
    (hports : u.ports = s.ports) : s.SameLines u :=
  ⟨hroster, hfeeds, hsenses, hlower, hupper, fun p => ⟨s.ports[p].flags, by rw [hports]⟩⟩

theorem refl (s : State) : s.SameLines s := of_ports rfl rfl rfl rfl rfl rfl

theorem trans {s t u : State} (h : s.SameLines t) (k : t.SameLines u) : s.SameLines u where
  roster := k.roster.trans h.roster
  feeds := k.feeds.trans h.feeds
  senses := k.senses.trans h.senses
  lower := k.lower.trans h.lower
  upper := k.upper.trans h.upper
  ports p := by
    obtain ⟨f, hf⟩ := h.ports p
    obtain ⟨g, hg⟩ := k.ports p
    exact ⟨g, by rw [hg, hf]⟩

variable (s : State)

theorem putSlots (v : Vector (Option Berth) 40) : s.SameLines (s.putSlots v) := of_ports rfl rfl rfl rfl rfl rfl

theorem mapBerth (p : Port) (f : Berth → Berth) : s.SameLines (s.mapBerth p f) := putSlots s _

theorem mapBerths (f : Port → Berth → Berth) : s.SameLines (s.mapBerths f) := putSlots s _

theorem copyIfIdle : s.SameLines s.copyIfIdle := by apply of_ports <;> simp

theorem dropCall (p : Port) : s.SameLines (s.dropCall p) := of_ports rfl rfl rfl rfl rfl rfl

theorem attendCall (p : Port) : s.SameLines (s.attendCall p) := of_ports rfl rfl rfl rfl rfl rfl

theorem dropWakeReason (p : Port) : s.SameLines (s.dropWakeReason p) := of_ports rfl rfl rfl rfl rfl rfl

theorem flagCoach (k : CoachKind) : s.SameLines (s.flagCoach k) := of_ports rfl rfl rfl rfl rfl rfl

theorem alertTo (st : AlertState) : s.SameLines (s.alertTo st) := of_ports rfl rfl rfl rfl rfl rfl

theorem flagBerth (k : BerthKind) (p : Port) : s.SameLines (s.flagBerth k p) where
  roster := rfl
  feeds := rfl
  senses := rfl
  lower := rfl
  upper := rfl
  ports q := by
    unfold State.flagBerth State.mapPort
    rw [Vector.set_get_eq]
    split
    · next e => subst e; exact ⟨_, rfl⟩
    · exact ⟨_, rfl⟩

theorem flagPorts (k : BerthKind) (ps : PortSet) : s.SameLines (s.flagPorts k ps) where
  roster := by simp
  feeds := by simp
  senses := by simp
  lower := by simp
  upper := by simp
  ports p := by
    simp only [State.flagPorts, Fin.getElem_fin, Vector.getElem_ofFn, Fin.eta]
    split
    · exact ⟨_, rfl⟩
    · exact ⟨_, rfl⟩

theorem raiseCall (p : Port) (r : CallReason) : s.SameLines (s.raiseCall p r) := by
  have hcalls : ∀ l : List Call, s.SameLines { s with calls := l } := fun _ => of_ports rfl rfl rfl rfl rfl rfl
  unfold State.raiseCall
  split
  · exact (hcalls _).trans (flagBerth _ _ _)
  · dsimp only
    split
    · exact hcalls _
    · exact (hcalls _).trans (flagBerth _ _ _)

theorem answerCall (p : Port) : s.SameLines (s.answerCall p) :=
  (((mapBerth s p _).trans (flagBerth _ _ _)).trans (dropWakeReason _ _)).trans (copyIfIdle _)

theorem passenger (p : Port) (code value : Byte) : s.SameLines (s.passenger p code value).2 := by
  unfold State.passenger
  split
  · exact refl s
  · split
    · exact refl s
    · split
      · exact refl s
      · split
        · exact refl s
        · exact mapBerth s p _

theorem sleepWhere (f : Image → Bool) : s.SameLines (s.sleepWhere f) := mapBerths s _

theorem route (q : RouteParams) : s.SameLines (s.route q) := by
  unfold State.route
  split
  · exact mapBerths s _
  · exact (mapBerths s _).trans (flagPorts _ _ _)
  · exact (((mapBerths s _).trans (flagPorts _ _ _)).trans (flagPorts _ _ _)).trans (copyIfIdle _)

end State.SameLines

theorem State.TableEffect.sameLines {s u : State} (h : s.TableEffect u) : s.SameLines u := by
  cases h with
  | openBerth q => exact .putSlots s _
  | amendBerth | disarm | inactivity => exact .mapBerth s _ _
  | setQuiet m =>
    cases m with
    | quiet =>
      have hmode : s.SameLines { s with quiet := .quiet } := .of_ports rfl rfl rfl rfl rfl rfl
      exact hmode.trans (.sleepWhere _ _)
    | day => exact .of_ports rfl rfl rfl rfl rfl rfl
  | lightsOut => exact .sleepWhere s _
  | route q => exact .route s q
  | setProfile p =>
    have hpending : s.SameLines { s with wake := { s.wake with pending := p, waiting := true } } :=
      .of_ports rfl rfl rfl rfl rfl rfl
    exact hpending.trans (.copyIfIdle _)
  | cancelRinging p =>
    exact ((State.SameLines.mapBerth s p _).trans (.dropWakeReason _ _)).trans (.copyIfIdle _)
  | callAttend p => exact .attendCall s p
  | callClose p => exact .dropCall s p
  | alertClear => exact .alertTo s _
  | resume => exact (State.SameLines.alertTo s _).trans (.mapBerths _ _)
  | endWindow p => exact (State.SameLines.mapBerth s p _).trans (.raiseCall _ _ _)
  | stepRamp p =>
    have hwake : s.SameLines { s with wake := s.wake.copyWaiting } := .of_ports rfl rfl rfl rfl rfl rfl
    exact hwake.trans (.mapBerth _ _ _)
  | stage1 p => exact (State.SameLines.mapBerth s p _).trans (.raiseCall _ _ _)
  | stage2 p => exact ((State.SameLines.mapBerth s p _).trans (.flagBerth _ _ _)).trans (.copyIfIdle _)
  | setDigest | walkComplete => exact .of_ports rfl rfl rfl rfl rfl rfl

theorem State.RegisterEffect.sameLines {s u : State} (h : s.RegisterEffect u) : s.SameLines u := by
  cases h <;> exact .of_ports rfl rfl rfl rfl rfl rfl

/-! ### Which effects leave the Roster and the feeds alone -/

/-- `u` has the Roster and the feeds of `s`. -/
def State.SameDesk (s u : State) : Prop := u.roster = s.roster ∧ u.feeds = s.feeds

theorem State.SameLines.sameDesk {s u : State} (h : s.SameLines u) : s.SameDesk u := ⟨h.roster, h.feeds⟩

theorem State.SameDesk.trans {s t u : State} (h : s.SameDesk t) (k : t.SameDesk u) : s.SameDesk u :=
  ⟨k.1.trans h.1, k.2.trans h.2⟩

theorem State.sameDesk_presses (s : State) (p : Port) (n : Nat) : s.SameDesk (s.presses p n) :=
  State.presses_induction (I := s.SameDesk) p (fun _ _ h => h)
    (fun t _ _ _ h => h.trans (State.SameLines.answerCall t p).sameDesk) (fun _ _ _ _ _ _ _ h => h) (fun _ h => h)
    n s ⟨rfl, rfl⟩

theorem State.sameDesk_turnResult (s : State) (t : Turn) (report : Option UnitReport) :
    s.SameDesk (s.turnResult t report) :=
  State.turnResult_induction (I := s.SameDesk) (fun _ _ _ h => h) (fun u p n h => h.trans (u.sameDesk_presses p n))
    (fun u p l h => State.passengers_induction (I := s.SameDesk) p
      (fun v code value h => h.trans (State.SameLines.passenger v p code value).sameDesk) l u h) t report s ⟨rfl, rfl⟩

/-- No command at the ports changes a feed. -/
theorem State.LineEffect.feeds {s u : State} (h : s.LineEffect u) : u.feeds = s.feeds := by
  cases h with
  | portPower q => unfold State.portPower; dsimp only; split <;> split <;> simp [State.dropPort, State.leaveLink, State.powerOn]
  | setPollMode q =>
    suffices h : ∀ (l : List Deck) (t : State), (l.foldl (fun t d => t.setMode q.mode d) t).feeds = t.feeds from h _ s
    intro l
    induction l with
    | nil => exact fun _ => rfl
    | cons d l ih =>
      intro t
      rw [List.foldl_cons, ih, State.setMode]
      split <;> simp
  | powerGood p =>
    unfold State.wakePoller
    dsimp only
    split <;> simp
  | presenceFall p | powerFault p | powerGoodExpiry p | dischargeEnd p | linkExpiry p =>
    simp [State.dropPort, State.leaveLink]
  | portConfig | ackBerthEvents | presenceRise => rfl

/-- Reading the senses after a reset writes port records alone. -/
theorem State.readSenses_ports_only (s : State) : s.SameDesk s.readSenses := by
  unfold State.readSenses
  suffices h : ∀ (l : List Port) (t : State), s.SameDesk t →
      s.SameDesk (l.foldl (fun t p => if s.senses.presence[p] then t.rise p else t) t) from h _ s ⟨rfl, rfl⟩
  intro l
  induction l with
  | nil => exact fun _ h => h
  | cons p l ih =>
    intro t h
    refine ih _ ?_
    dsimp only
    split
    · exact h
    · exact h

end Sys2Proof.Machine
end

section
/-! SUPPORT. The feeds, the wake profiles and the digest: what each effect leaves of their laws (spec/06 R101, R102; 11 R163;
12 R178, R179). -/

namespace Sys2Proof.Machine

open Sys2Proof

/-! ### Feeds -/

theorem Feed.atReset_lawful : Feed.atReset.Lawful := by rw [Feed.lawful_iff]; decide

/-- A descriptor on a feed: an ABSENT feed has no running timer, and another keeps its state. -/
theorem Feed.Lawful.configure {r : Feed} (h : r.Lawful) (d : Descriptor) : (r.configure d).Lawful where
  desc := by unfold Feed.configure; cases hs : r.state <;> simp
  timer := by
    have htimer := h.timer
    unfold Feed.configure
    cases hs : r.state <;> simp_all

/-- A feed with a descriptor is lawful in each state but ABSENT, its timer RUNNING exactly in ACTIVE. -/
theorem Feed.Lawful.of_present {r : Feed} (h : r.Lawful) (hpresent : r.state ≠ .absent) {st : FeedState}
    {timer : Option Nat} (hst : st ≠ .absent) (htimer : timer.isSome = true ↔ st = .active) :
    Feed.Lawful { r with state := st, timer := timer } :=
  ⟨by simp [h.desc, hpresent, hst], htimer⟩

theorem State.feedsLawful_mapFeed {s : State} {f : FeedIx} {g : Feed → Feed} (hs : s.FeedsLawful)
    (hg : (g s.feeds[f]).Lawful) : (s.mapFeed f g).FeedsLawful := by
  intro e
  have hget : (s.mapFeed f g).feeds[e] = if e = f then g s.feeds[f] else s.feeds[e] := by
    simp only [State.mapFeed, Fin.getElem_fin, Vector.getElem_set, Fin.ext_iff, eq_comm]
  rw [hget]
  split
  · exact hg
  · exact hs e

theorem State.feedsLawful_congr {s u : State} (h : u.feeds = s.feeds) (hs : s.FeedsLawful) : u.FeedsLawful := by
  unfold State.FeedsLawful
  rw [h]
  exact hs

theorem State.endPlayout_feeds (s : State) (f : FeedIx) (reach : Bool) : (s.endPlayout f reach).feeds = s.feeds := by
  unfold State.endPlayout
  split
  · rfl
  · exact s.atDesk_feeds _

theorem State.alertLevel_alertEntry_feeds (s : State) (level : Level) :
    (s.alertLevel level).alertEntry.feeds = s.feeds := by
  rw [State.alertEntry, State.atDesk_feeds, State.claimAll, State.mapBerths, State.putSlots_feeds]
  rfl

theorem Feed.present_of_active {r : Feed} (h : r.state = .active) : r.state ≠ .absent := by rw [h]; decide

theorem State.DeskEffect.feedsLawful {s u : State} (h : s.DeskEffect u) (hs : s.FeedsLawful) : u.FeedsLawful := by
  cases h with
  | announce | endAnnounce | cancelAnnounce | releaseAnnounce | leadInEnd | durationExpiry | gapExpiry => exact hs
  | configureFeed q => exact State.feedsLawful_mapFeed hs ((hs q.feed).configure q.desc)
  | unconfigureFeed f =>
    exact State.feedsLawful_congr (State.endPlayout_feeds _ f _) (State.feedsLawful_mapFeed hs Feed.atReset_lawful)
  | stall f htimer =>
    have hpresent := Feed.present_of_active ((hs f).timer.1 htimer)
    exact State.feedsLawful_congr (State.endPlayout_feeds _ f _)
      (State.feedsLawful_mapFeed (g := fun r => { r with state := .stalled, timer := none }) hs
        ((hs f).of_present hpresent (by decide) (by simp)))
  | dataTaken g hpresent =>
    have htaken := State.feedsLawful_mapFeed (g := fun r => { r with state := .active, timer := some s.stallMs }) hs
      ((hs g.feed).of_present hpresent (by decide) (by simp))
    unfold State.dataTaken
    dsimp only
    split <;> exact htaken
  | endTaken g hpresent =>
    unfold State.endTaken
    split
    · exact State.feedsLawful_congr (State.endPlayout_feeds _ g.feed _)
        (State.feedsLawful_mapFeed (g := fun r => { r with state := .waiting, timer := none }) hs
          ((hs g.feed).of_present hpresent (by decide) (by simp)))
    · exact hs

theorem State.feedsLawful_kept : ∀ s t : State, s.FeedsLawful → step s = .next t → t.FeedsLawful := by
  refine State.kept_of_effects (fun s t h hs => h.elim fun _ _ _ _ _ _ _ => hs) (fun s u h hs => ?_) fun u hu =>
    State.feedsLawful_congr (by rw [State.settle, State.judgeAttn_feeds, State.refresh_feeds]) hu
  cases h with
  | reset pins =>
    refine State.feedsLawful_congr (State.readSenses_ports_only _).2 fun f => ?_
    simpa [State.blank] using Feed.atReset_lawful
  | tripReset => exact State.feedsLawful_congr (by rw [State.tripReset, State.copyIfIdle_feeds]) hs
  | retireBerth p => exact State.feedsLawful_congr (by rw [State.retireBerth, State.copyIfIdle_feeds]; rfl) hs
  | alertEntry level => exact State.feedsLawful_congr (State.alertLevel_alertEntry_feeds s level) hs
  | turn d t report =>
    refine State.feedsLawful_congr ?_ hs
    rw [State.nextTurn, State.startTurn_feeds, State.mapPoller_feeds, State.refresh_feeds]
    exact (s.sameDesk_turnResult t report).2
  | table h => exact State.feedsLawful_congr h.sameLines.feeds hs
  | desk h => exact h.feedsLawful hs
  | line h => exact State.feedsLawful_congr h.feeds hs
  | register h => exact State.feedsLawful_congr h.sameLines.feeds hs

/-! ### The digest -/

theorem slotBytes_congr {o o' : Option Berth} (h : o.map Berth.image = o'.map Berth.image) : slotBytes o = slotBytes o' := by
  cases o <;> cases o' <;> simp_all [slotBytes]

theorem tableBytes_congr {v w : Vector (Option Berth) 40} (h : slotImages v = slotImages w) :
    tableBytes v = tableBytes w := by
  rw [slotImages_eq_iff] at h
  unfold tableBytes
  congr 1
  funext p
  exact slotBytes_congr (h p)

theorem Walk.crc_congr {v w : Vector (Option Berth) 40} (k : Walk) (h : slotImages v = slotImages w) :
    k.crc v = k.crc w := by
  unfold Walk.crc
  rw [tableBytes_congr h]

/-- The law of the digest as two implications: with a walk in progress, and with none (12 R179). -/
def State.DigestSettles (s : State) : Prop :=
  (∀ w, s.digest.walk = some w → w.poly = s.digest.poly ∧ w.order = s.digest.order) ∧
    (s.digest.walk = none → s.digest.settled = Walk.crc ⟨s.digest.poly, s.digest.order⟩ s.slots)

theorem State.digestLawful_iff (s : State) : s.DigestLawful ↔ s.DigestSettles := by
  unfold State.DigestLawful State.DigestSettles
  cases s.digest.walk <;> simp

/-- A walk that starts runs under the settings in force. -/
theorem State.digestSettles_of_startWalk {s : State} {d : Digest} (h : s.digest = d.startWalk) : s.DigestSettles := by
  unfold State.DigestSettles
  rw [h]
  exact ⟨fun w hw => by cases hw; exact ⟨rfl, rfl⟩, fun hw => by cases hw⟩

theorem State.digestSettles_congr {s u : State} (hslots : u.slots = s.slots) (hdigest : u.digest = s.digest)
    (hs : s.DigestSettles) : u.DigestSettles := by
  unfold State.DigestSettles at hs ⊢
  rwa [hslots, hdigest]

/-- A change of the table starts a walk unless every image stands as it was (01 R5, 12 R178). -/
theorem State.digestSettles_putSlots {s : State} (v : Vector (Option Berth) 40) (hs : s.DigestSettles) :
    (s.putSlots v).DigestSettles := by
  by_cases himages : slotImages v = slotImages s.slots
  · have hdigest : (s.putSlots v).digest = s.digest := if_pos himages
    unfold State.DigestSettles at hs ⊢
    rw [hdigest]
    exact ⟨hs.1, fun hw => (hs.2 hw).trans (Walk.crc_congr _ himages).symm⟩
  · exact State.digestSettles_of_startWalk (d := s.digest) (if_neg himages)

theorem State.digestSettles_mapBerths {s : State} (f : Port → Berth → Berth) (hs : s.DigestSettles) :
    (s.mapBerths f).DigestSettles := by
  rw [State.mapBerths]
  exact State.digestSettles_putSlots _ hs

theorem State.digestSettles_sleepWhere {s : State} (f : Image → Bool) (hs : s.DigestSettles) :
    (s.sleepWhere f).DigestSettles := by
  rw [State.sleepWhere, State.claimAll]
  exact State.digestSettles_mapBerths _ hs

theorem State.digestSettles_ringWhere {s : State} (f : Image → Bool) (hs : s.DigestSettles) :
    (s.ringWhere f).DigestSettles := by
  rw [State.ringWhere]
  exact State.digestSettles_mapBerths _ hs

theorem State.digestSettles_copyIfIdle {s : State} (hs : s.DigestSettles) : s.copyIfIdle.DigestSettles :=
  State.digestSettles_congr (by simp) (by simp) hs

theorem State.digestSettles_flagPorts {s : State} (k : BerthKind) (ps : PortSet) (hs : s.DigestSettles) :
    (s.flagPorts k ps).DigestSettles := State.digestSettles_congr (by simp) (by simp) hs

theorem State.digestSettles_route {s : State} (q : RouteParams) (hs : s.DigestSettles) : (s.route q).DigestSettles := by
  unfold State.route
  split
  · exact State.digestSettles_ringWhere _ hs
  · exact State.digestSettles_flagPorts _ _ (State.digestSettles_ringWhere _ hs)
  · rw [State.departRinging]
    exact State.digestSettles_copyIfIdle
      (State.digestSettles_flagPorts _ _ (State.digestSettles_flagPorts _ _ (State.digestSettles_mapBerths _ hs)))

theorem State.digestSettles_raiseCall {s : State} (p : Port) (r : CallReason) (hs : s.DigestSettles) :
    (s.raiseCall p r).DigestSettles := State.digestSettles_congr (by simp) (by simp) hs

theorem State.TableEffect.digestSettles {s u : State} (h : s.TableEffect u) (hs : s.DigestSettles) : u.DigestSettles := by
  cases h with
  | openBerth | amendBerth | disarm | inactivity => exact State.digestSettles_putSlots _ hs
  | stepRamp p => exact State.digestSettles_putSlots (s := { s with wake := s.wake.copyWaiting }) _ hs
  | lightsOut => exact State.digestSettles_sleepWhere _ hs
  | setQuiet m =>
    cases m with
    | quiet => exact State.digestSettles_sleepWhere (s := { s with quiet := .quiet }) _ hs
    | day => exact hs
  | route q => exact State.digestSettles_route q hs
  | setProfile p =>
    exact State.digestSettles_copyIfIdle (s := { s with wake := { s.wake with pending := p, waiting := true } }) hs
  | cancelRinging p =>
    exact State.digestSettles_copyIfIdle (s := (s.mapBerth p _).dropWakeReason p) (State.digestSettles_putSlots _ hs)
  | callAttend | callClose | alertClear => exact hs
  | resume => exact State.digestSettles_mapBerths (s := s.alertTo .clear) _ hs
  | endWindow | stage1 => exact State.digestSettles_raiseCall _ _ (State.digestSettles_putSlots _ hs)
  | stage2 p =>
    exact State.digestSettles_copyIfIdle (s := (s.mapBerth p _).flagBerth _ p) (State.digestSettles_putSlots _ hs)
  | setDigest c => exact State.digestSettles_of_startWalk rfl
  | walkComplete w hwalk =>
    obtain ⟨hpoly, horder⟩ := hs.1 w hwalk
    refine ⟨fun v hv => ?_, fun _ => ?_⟩
    · rw [State.flagCoach_digest] at hv
      simp at hv
    · show w.crc s.slots = _
      rw [State.flagCoach_digest, ← hpoly, ← horder]
      rfl

theorem State.digestSettles_law : State.TableLaw State.DigestSettles where
  congr s u h := State.digestSettles_congr h.slots h.digest
  blank pins := State.digestSettles_of_startWalk (d := Digest.atReset) rfl
  tripReset s _ _ := State.digestSettles_of_startWalk (d := s.digest) (by rw [State.tripReset, State.copyIfIdle_digest])
  retireBerth s p hs := by
    rw [State.retireBerth]
    refine State.digestSettles_copyIfIdle (State.digestSettles_congr (State.dropCall_slots _ _) (State.dropCall_digest _ _) ?_)
    refine State.digestSettles_congr (State.atDesk_slots _ _) (State.atDesk_digest _ _) ?_
    exact State.digestSettles_putSlots _ hs
  alertEntry s _ hs := by
    rw [State.alertEntry, State.claimAll]
    refine State.digestSettles_congr (State.atDesk_slots _ _) (State.atDesk_digest _ _) ?_
    exact State.digestSettles_mapBerths (s := (s.alertTo .active).flagCoach .alert) _ hs
  answerCall s p b _ _ hs :=
    State.digestSettles_copyIfIdle (s := ((s.mapBerth p _).flagBerth .wakeAnswered p).dropWakeReason p)
      (State.digestSettles_putSlots _ hs)
  pressClaim s p b f after _ _ _ hs := State.digestSettles_putSlots _ hs
  dropCall s p hs := hs
  passenger s p code value hs := by
    unfold State.passenger
    repeat' split
    all_goals first | exact hs | exact State.digestSettles_putSlots _ hs
  table s u h := h.digestSettles

/-! ### Wake profiles -/

/-- Both profiles rise. -/
def WakeUnit.Rises (w : WakeUnit) : Prop := w.active.rising = true ∧ w.pending.rising = true

theorem WakeUnit.Rises.copy {w : WakeUnit} (h : w.Rises) : w.copy.Rises := ⟨h.2, h.2⟩

theorem State.ProfilesLawful.rises {s : State} (h : s.ProfilesLawful) : s.wake.Rises := ⟨h.1, h.2.1⟩

theorem State.anyRamp_iff (s : State) : s.anyRamp = true ↔
    ∃ (p : Port) (b : Berth), s.slots[p] = some b ∧ b.ramp.isSome = true := by
  unfold State.anyRamp
  rw [List.any_eq_true]
  refine ⟨fun ⟨p, _, h⟩ => ?_, fun ⟨p, b, hb, hramp⟩ => ⟨p, List.mem_finRange p, ?_⟩⟩
  · obtain ⟨b, hb, hramp⟩ := (Option.any_eq_true ..).1 h
    exact ⟨p, b, hb, hramp⟩
  · rw [hb]; exact hramp

theorem State.anyRamp_congr {s u : State} (h : u.slots = s.slots) : u.anyRamp = s.anyRamp := by
  unfold State.anyRamp; rw [h]

/-- Once a waiting copy has had its chance, the law of the profiles holds if they rise. -/
theorem State.profilesLawful_copyIfIdle {s : State} (h : s.wake.Rises) : s.copyIfIdle.ProfilesLawful := by
  have hramp : s.copyIfIdle.anyRamp = s.anyRamp := State.anyRamp_congr s.copyIfIdle_slots
  unfold State.ProfilesLawful
  rw [hramp]
  unfold State.copyIfIdle
  split
  · exact ⟨h.2, h.2, fun hwait => by cases hwait⟩
  · next hidle => exact ⟨h.1, h.2, fun hwait => by simpa [hwait] using hidle⟩

/-- The law of the profiles is kept while every ramp that runs goes on. -/
theorem State.profilesLawful_mono {s u : State} (hs : s.ProfilesLawful) (hwake : u.wake = s.wake)
    (hramps : ∀ (p : Port) (b : Berth), s.slots[p] = some b → b.ramp.isSome = true →
      ∃ c, u.slots[p] = some c ∧ c.ramp.isSome = true) : u.ProfilesLawful := by
  unfold State.ProfilesLawful
  rw [hwake]
  refine ⟨hs.1, hs.2.1, fun hwait => ?_⟩
  obtain ⟨p, b, hb, hramp⟩ := s.anyRamp_iff.1 (hs.2.2 hwait)
  obtain ⟨c, hc, hcramp⟩ := hramps p b hb hramp
  exact u.anyRamp_iff.2 ⟨p, c, hc, hcramp⟩

theorem State.profilesLawful_congr {s u : State} (hslots : u.slots = s.slots) (hwake : u.wake = s.wake)
    (hs : s.ProfilesLawful) : u.ProfilesLawful :=
  State.profilesLawful_mono hs hwake fun p b hb hramp => ⟨b, by rw [hslots, hb], hramp⟩

@[simp] theorem State.mapBerths_wake (s : State) (f : Port → Berth → Berth) : (s.mapBerths f).wake = s.wake :=
  s.putSlots_wake _

theorem State.profilesLawful_mapBerths {s : State} {f : Port → Berth → Berth} (hs : s.ProfilesLawful)
    (hf : ∀ p b, b.ramp.isSome = true → (f p b).ramp.isSome = true) : (s.mapBerths f).ProfilesLawful :=
  State.profilesLawful_mono hs (s.mapBerths_wake f) fun p b hb hramp =>
    ⟨f p b, by rw [State.mapBerths_slots_get, hb, Option.map_some], hf p b hramp⟩

theorem State.profilesLawful_mapBerth {s u : State} {p : Port} {f : Berth → Berth} (hs : s.ProfilesLawful)
    (hslots : u.slots = (s.mapBerth p f).slots) (hwake : u.wake = s.wake)
    (hf : ∀ b, b.ramp.isSome = true → (f b).ramp.isSome = true) : u.ProfilesLawful := by
  refine State.profilesLawful_mono hs hwake fun q b hb hramp => ?_
  rw [hslots, State.mapBerth_slots_get]
  split
  · next e =>
    subst e
    exact ⟨f b, by rw [hb, Option.map_some], hf b hramp⟩
  · exact ⟨b, hb, hramp⟩

theorem State.profilesLawful_claim {s : State} (p : Port) (activity : Bool) (f : Image → Image) (hs : s.ProfilesLawful) :
    (s.claim p activity f).ProfilesLawful :=
  State.profilesLawful_mapBerth hs rfl rfl fun _ h => h

theorem State.profilesLawful_sleepWhere {s : State} (f : Image → Bool) (hs : s.ProfilesLawful) :
    (s.sleepWhere f).ProfilesLawful := by
  rw [State.sleepWhere, State.claimAll]
  exact State.profilesLawful_mapBerths hs fun _ _ h => h

theorem State.profilesLawful_ringWhere {s : State} (f : Image → Bool) (hs : s.ProfilesLawful) :
    (s.ringWhere f).ProfilesLawful := by
  rw [State.ringWhere]
  refine State.profilesLawful_mapBerths hs fun p b h => ?_
  split
  · rfl
  · exact h

theorem State.profilesLawful_route {s : State} (q : RouteParams) (hs : s.ProfilesLawful) : (s.route q).ProfilesLawful := by
  unfold State.route
  split
  · exact State.profilesLawful_ringWhere _ hs
  · exact State.profilesLawful_congr (State.flagPorts_slots _ _ _) (State.flagPorts_wake _ _ _)
      (State.profilesLawful_ringWhere _ hs)
  · refine State.profilesLawful_copyIfIdle ?_
    rw [State.flagPorts_wake, State.flagPorts_wake, State.departRinging, State.mapBerths, State.putSlots_wake]
    exact hs.rises

theorem State.TableEffect.profilesLawful {s u : State} (h : s.TableEffect u) (hs : s.ProfilesLawful) : u.ProfilesLawful := by
  cases h with
  | openBerth q hvacant =>
    refine State.profilesLawful_mono hs rfl fun p b hb hramp => ⟨b, ?_, hramp⟩
    rw [State.openBerth_slots_get]
    split
    · next e => rw [State.isOpen, ← e, hb] at hvacant; cases hvacant
    · exact hb
  | amendBerth | disarm | inactivity => exact State.profilesLawful_claim _ _ _ hs
  | setQuiet m =>
    cases m with
    | quiet => exact State.profilesLawful_sleepWhere (s := { s with quiet := .quiet }) _ hs
    | day => exact hs
  | lightsOut => exact State.profilesLawful_sleepWhere _ hs
  | route q => exact State.profilesLawful_route q hs
  | setProfile p hrising => exact State.profilesLawful_copyIfIdle ⟨hs.1, hrising⟩
  | cancelRinging p => exact State.profilesLawful_copyIfIdle hs.rises
  | callAttend | callClose | alertClear | setDigest | walkComplete => exact hs
  | resume =>
    rw [State.resume]
    exact State.profilesLawful_mapBerths (s := s.alertTo .clear) hs fun _ _ h => h
  | endWindow p =>
    refine State.profilesLawful_congr (State.raiseCall_slots _ _ _) (State.raiseCall_wake _ _ _) ?_
    exact State.profilesLawful_mapBerth hs rfl rfl fun _ h => h
  | stepRamp p =>
    have hrises : s.wake.copyWaiting.Rises := by
      unfold WakeUnit.copyWaiting
      split
      · exact hs.rises.copy
      · exact hs.rises
    have hdone : s.wake.copyWaiting.waiting = false := by
      unfold WakeUnit.copyWaiting
      split
      · rfl
      · next hwait => simpa using hwait
    exact ⟨hrises.1, hrises.2, fun hwait => absurd (hdone.symm.trans hwait) Bool.false_ne_true⟩
  | stage1 p =>
    refine State.profilesLawful_congr (State.raiseCall_slots _ _ _) (State.raiseCall_wake _ _ _) ?_
    refine State.profilesLawful_mapBerth hs rfl rfl fun b h => ?_
    simpa [Berth.escalate] using h
  | stage2 p => exact State.profilesLawful_copyIfIdle hs.rises

theorem State.profilesLawful_law : State.TableLaw State.ProfilesLawful where
  congr s u h := State.profilesLawful_congr h.slots h.wake
  blank pins := ⟨rfl, rfl, fun h => by cases h⟩
  tripReset s _ hs := State.profilesLawful_copyIfIdle hs.rises
  retireBerth s p hs := State.profilesLawful_copyIfIdle hs.rises
  alertEntry s _ hs := by
    rw [State.alertEntry, State.claimAll]
    refine State.profilesLawful_congr (State.atDesk_slots _ _) (State.atDesk_wake _ _) ?_
    exact State.profilesLawful_mapBerths (s := (s.alertTo .active).flagCoach .alert) hs fun _ _ h => h
  answerCall s p b _ _ hs := State.profilesLawful_copyIfIdle hs.rises
  pressClaim s p b f after _ _ _ hs := State.profilesLawful_mapBerth hs rfl rfl fun _ h => h
  dropCall s p hs := hs
  passenger s p code value hs := by
    unfold State.passenger
    repeat' split
    all_goals first | exact hs | exact State.profilesLawful_claim _ _ _ hs
  table s u h := h.profilesLawful

end Sys2Proof.Machine
end

section
/-! PROOF. The laws of the feeds, the wake profiles and the digest (spec/06, 11, 12). -/

namespace Sys2Proof.Proofs

open Sys2Proof Sys2Proof.Machine

/-- Settles O13: feeds change only by the commands and frames of the Feed Intake; profiles and digest are laws of the table. -/
theorem feedsProfilesDigestKept : Obligations.FeedsProfilesDigestKept := fun s t hstep =>
  ⟨fun hs => State.feedsLawful_kept s t hs hstep, fun hs => State.profilesLawful_law.kept s t hs hstep,
    fun hs =>
      t.digestLawful_iff.2 (State.digestSettles_law.kept s t (s.digestLawful_iff.1 hs) hstep)⟩

end Sys2Proof.Proofs
end

section
/-! SUPPORT. The Roster moves record by record: the moves of one record, the grants, preemptions and admissions, and every
event at the desk as a sequence of them (spec/03, spec/04). -/

namespace Sys2Proof.Machine

open Sys2Proof

/-! ### The moves -/

/-- What one record may become where it stands. -/
inductive Ann.Move (env : State) (a : Ann) : Ann → Prop
  | hold (hair : a.onAir = true) : a.Move env a.hold
  | ended (o : AnnOutcome) : a.Move env (a.ended o)
  | afterPlayout (hair : a.onAir = true) : a.Move env (a.afterPlayout a.joined)
  | unjoin : a.Move env a.unjoin
  | startPlayout (v : Vector PortRec 40) (hstate : a.state = .leadIn) : a.Move env (a.startPlayout v)
  | requeue (hstate : a.state = .gap) : a.Move env a.requeue
  | withdraw (p : Port) : a.Move env (a.withdraw p)
  | rearm (budget : Nat) : a.Move env (a.rearm env.openPorts budget)

/-- One change of the Roster: a move of a record, a grant, a preemption with the grant it is made for, an admission into a slot
that holds no live record, or a release. -/
inductive Roster.Step (env : State) (r : Roster) : Roster → Prop
  | move {h : Handle} {a b : Ann} (ha : r.rec? h = some a) (hmove : a.Move env b) : r.Step env (r.put h b)
  | grant {h : Handle} {a : Ann} {c : Channel} (ha : r.rec? h = some a) (hwaits : a.waits = true) (hc : r.LowestFree c)
      (hsource : r.SourceFree a.source) : r.Step env (r.put h (a.startLeadIn env c))
  | preempt {v h : Handle} {a b : Ann} {c : Channel} (hb : r.rec? v = some b) (hair : b.onAir = true)
      (ha : r.rec? h = some a) (hwaits : a.waits = true) (hc : (r.put v b.hold).LowestFree c)
      (hsource : r.Exclusive → (r.put v b.hold).SourceFree a.source) :
      r.Step env ((r.put v b.hold).put h (a.startLeadIn env c))
  | place {h : Handle} {n : Count32} {a : Ann} {owed : PortSet} (hdone : ∀ x, r.rec? h = some x → x.state = .done)
      (hslot : h = alertSlot → a.cls = .safety ∧ a.target = .all) (hnodup : owed.Nodup)
      (hopen : ∀ p ∈ owed, env.isOpen p = true) :
      r.Step env (r.placed h n { a.asAdmitted owed with number := n })
  | release {h : Handle} : r.Step env (r.free h)

/-- Changes one after another. -/
abbrev Roster.Steps (env : State) : Roster → Roster → Prop := Relation.ReflTransGen (Roster.Step env)

/-- A property of Rosters that each change keeps is kept by changes one after another. -/
theorem Roster.Steps.keeps {env : State} {I : Roster → Prop} (hI : ∀ r r', Roster.Step env r r' → I r → I r')
    {r r' : Roster} (h : Roster.Steps env r r') (hr : I r) : I r' := by
  induction h with
  | refl => exact hr
  | tail _ hstep ih => exact hI _ _ hstep ih

/-! ### A record's moves -/

/-- The accounting of R76 in the words of the model's moves. -/
theorem Ann.afterPlayout_eq (a : Ann) :
    a.afterPlayout a.joined =
      if a.reach.owed = [] then a.reach.finish .complete
      else if 0 < a.reach.left then a.reach.toGap else a.reach.finish .partialReach := rfl

theorem Ann.Move.closed {P : Ann → Prop} (hP : Ann.Closed P) {env : State} {a b : Ann} (h : a.Move env b) (ha : P a) :
    P b := by
  cases h with
  | hold hair => exact hP.hold a hair ha
  | ended o => exact hP.finish o a ha
  | afterPlayout hair =>
    have hreach := hP.reach a ha
    rw [Ann.afterPlayout_eq]
    split
    · exact hP.finish _ _ hreach
    · split
      · exact hP.toGap _ hair hreach
      · exact hP.finish _ _ hreach
  | unjoin => exact hP.unjoin a ha
  | startPlayout v hstate => exact hP.startPlayout v a hstate ha
  | requeue hstate => exact hP.requeue a hstate ha
  | withdraw p => exact hP.withdraw p a ha
  | rearm n => exact hP.rearm _ n a ha

/-- No move changes what an announcement is. -/
theorem Ann.Move.fields {env : State} {a b : Ann} (h : a.Move env b) :
    b.cls = a.cls ∧ b.target = a.target ∧ b.source = a.source := by
  cases h with
  | afterPlayout =>
    rw [Ann.afterPlayout_eq]
    split
    · exact ⟨rfl, rfl, rfl⟩
    · split <;> exact ⟨rfl, rfl, rfl⟩
  | hold | ended | unjoin | startPlayout | requeue | withdraw | rearm => exact ⟨rfl, rfl, rfl⟩

/-- Only a record on the air is on the air after a move, and then on its channel. -/
theorem Ann.Move.onAir {env : State} {a b : Ann} (h : a.Move env b) (hb : b.onAir = true) :
    a.onAir = true ∧ b.channel = a.channel := by
  cases h with
  | afterPlayout =>
    rw [Ann.afterPlayout_eq] at hb
    split at hb
    · simp [Ann.onAir, Ann.finish] at hb
    · split at hb <;> simp [Ann.onAir, Ann.finish, Ann.toGap] at hb
  | hold | ended | requeue => simp [Ann.onAir, Ann.hold, Ann.ended, Ann.requeue] at hb
  | startPlayout v hstate => exact ⟨Ann.onAir_of_leadIn hstate, rfl⟩
  | unjoin | withdraw | rearm => exact ⟨hb, rfl⟩

/-! ### Properties of every record -/

/-- A property that every move keeps and every admission has holds of every record after a change. -/
theorem Roster.Step.all {P : Ann → Prop} (hP : Ann.Closed P)
    (hnew : ∀ owed (a : Ann) n, P { a.asAdmitted owed with number := n }) {env : State} {r r' : Roster}
    (h : r.Step env r') (hr : r.All P) : r'.All P := by
  cases h with
  | move ha hmove => exact hr.put (hmove.closed hP (hr _ _ ha)) _
  | grant ha hwaits => exact hr.put (hP.grant env _ _ hwaits (hr _ _ ha)) _
  | preempt hb hair ha hwaits =>
    exact (hr.put (hP.hold _ hair (hr _ _ hb)) _).put (hP.grant env _ _ hwaits (hr _ _ ha)) _
  | place =>
    intro g x hx
    rw [Roster.rec_placed] at hx
    split at hx
    · cases hx; exact hnew _ _ _
    · exact hr g x hx
  | release => exact hr.free _

/-! ### The Allocator's law and the order -/

/-- A record replaced by one that is on the air only if it was, on the same channel and source, takes no resource. -/
theorem Roster.Exclusive.put {r : Roster} (hr : r.Exclusive) {h : Handle} {a b : Ann} (ha : r.rec? h = some a)
    (hsource : b.source = a.source) (hair : b.onAir = true → a.onAir = true ∧ b.channel = a.channel) :
    (r.put h b).Exclusive := by
  have hback : ∀ g x, (r.put h b).rec? g = some x → x.onAir = true →
      ∃ y, r.rec? g = some y ∧ y.onAir = true ∧ x.channel = y.channel ∧ x.source = y.source := by
    intro g x hx hxair
    rw [Roster.rec_put] at hx
    split at hx
    · next e =>
      cases hx; subst e
      exact ⟨a, ha, (hair hxair).1, (hair hxair).2, hsource⟩
    · exact ⟨x, hx, hxair, rfl, rfl⟩
  intro g g' x hx y hy hxair hyair hclash
  obtain ⟨x', hx', hxair', hxc, hxs⟩ := hback g x hx hxair
  obtain ⟨y', hy', hyair', hyc, hys⟩ := hback g' y hy hyair
  rw [hxc, hyc, hxs, hys] at hclash
  exact hr g g' x' hx' y' hy' hxair' hyair' hclash

/-- A record put on a channel and a source that are FREE keeps the Allocator's law. -/
theorem Roster.Exclusive.put_free {r : Roster} (hr : r.Exclusive) {h : Handle} {b : Ann} {c : Channel}
    (hchannel : b.channel = some c) (hc : r.LowestFree c) (hsource : r.SourceFree b.source) : (r.put h b).Exclusive := by
  have hfree : ∀ g x, r.rec? g = some x → x.onAir = true →
      ¬(b.channel = x.channel ∨ (b.source = x.source ∧ b.source.exclusive = true)) := by
    rintro g x hx hair (h | ⟨hs, hexcl⟩)
    · exact hc.1 g x hx hair (by rw [← h, hchannel])
    · exact hsource hexcl g x hx hair hs.symm
  intro g g' x hx y hy hxair hyair hclash
  rw [Option.mem_def, Roster.rec_put] at hx hy
  split at hx <;> split at hy
  · next e e' => rw [e, e']
  · cases hx; exact absurd hclash (hfree g' y hy hyair)
  · cases hy
    refine absurd ?_ (hfree g x hx hxair)
    rcases hclash with h | ⟨hs, hexcl⟩
    · exact .inl h.symm
    · exact .inr ⟨hs.symm, hs ▸ hexcl⟩
  · exact hr g g' x hx y hy hxair hyair hclash

theorem Roster.Exclusive.of_subset {r r' : Roster} (hr : r.Exclusive)
    (h : ∀ g x, r'.rec? g = some x → x.onAir = true → r.rec? g = some x) : r'.Exclusive :=
  fun g g' x hx y hy hxair hyair => hr g g' x (h g x hx hxair) y (h g' y hy hyair) hxair hyair

theorem Ann.hold_not_onAir (a : Ann) : a.hold.onAir = false := by simp [Ann.hold, Ann.onAir]

theorem Roster.Step.exclusive {env : State} {r r' : Roster} (h : r.Step env r') (hr : r.Exclusive) : r'.Exclusive := by
  cases h with
  | move ha hmove => exact hr.put ha hmove.fields.2.2 hmove.onAir
  | grant ha hwaits hc hsource => exact hr.put_free rfl hc hsource
  | preempt hb hair ha hwaits hc hsource =>
    have hheld : (r.put _ (Ann.hold _)).Exclusive := hr.put hb rfl fun hheld => by
      rw [Ann.hold_not_onAir] at hheld; cases hheld
    exact hheld.put_free rfl hc (hsource hr)
  | place =>
    refine hr.of_subset fun g x hx hxair => ?_
    rw [Roster.rec_placed] at hx
    split at hx
    · cases hx; cases hxair
    · exact hx
  | release =>
    refine hr.of_subset fun g x hx _ => ?_
    rw [Roster.rec_free] at hx
    split at hx
    · cases hx
    · exact hx

theorem Roster.Ordered.put {r : Roster} (hr : r.Ordered) {h : Handle} {a : Ann} (ha : r.rec? h = some a) (b : Ann) :
    (r.put h b).Ordered := by
  refine ⟨hr.1, fun g => ?_⟩
  rw [Roster.order_put, hr.2 g, Roster.rec_put]
  split
  · next e => rw [e, ha]; rfl
  · rfl

theorem Roster.Ordered.free {r : Roster} (hr : r.Ordered) (h : Handle) : (r.free h).Ordered := by
  refine ⟨hr.1.filter _, fun g => ?_⟩
  show g ∈ r.order.filter (· != h) ↔ _
  rw [List.mem_filter, hr.2 g, Roster.rec_free]
  by_cases e : g = h <;> simp [e]

theorem Roster.Step.ordered {env : State} {r r' : Roster} (h : r.Step env r') (hr : r.Ordered) : r'.Ordered := by
  cases h with
  | move ha => exact hr.put ha _
  | grant ha => exact hr.put ha _
  | @preempt v h a b c hb hair ha hwaits =>
    have hstill : ∃ x, (r.put v b.hold).rec? h = some x := by
      rw [Roster.rec_put]
      split
      · exact ⟨_, rfl⟩
      · exact ⟨a, ha⟩
    obtain ⟨x, hx⟩ := hstill
    exact (hr.put hb _).put hx _
  | place => exact hr.placed _ _ _
  | release => exact hr.free _

theorem Roster.AlertSlot.put {r : Roster} (hr : r.AlertSlot) {h : Handle} {b : Ann}
    (hb : h = alertSlot → b.cls = .safety ∧ b.target = .all) : (r.put h b).AlertSlot := by
  intro x hx
  rw [Option.mem_def, Roster.rec_put] at hx
  split at hx
  · next e => cases hx; exact hb e.symm
  · exact hr x hx

theorem Roster.Step.alertSlot {env : State} {r r' : Roster} (h : r.Step env r') (hr : r.AlertSlot) : r'.AlertSlot := by
  cases h with
  | move ha hmove =>
    refine hr.put fun e => ?_
    rw [hmove.fields.1, hmove.fields.2.1]
    exact hr _ (e ▸ ha)
  | @grant h a c ha => exact hr.put fun e => hr a (e ▸ ha)
  | @preempt v h a b c hb _ ha =>
    have hheld : (r.put v b.hold).AlertSlot := hr.put fun e => hr b (e ▸ hb)
    exact hheld.put fun e => hr a (e ▸ ha)
  | place _ hslot =>
    intro x hx
    rw [Option.mem_def, Roster.rec_placed] at hx
    split at hx
    · next e => cases hx; exact hslot e.symm
    · exact hr x hx
  | release =>
    intro x hx
    rw [Option.mem_def, Roster.rec_free] at hx
    split at hx
    · cases hx
    · exact hr x hx

theorem Roster.Step.lawful {env : State} {r r' : Roster} (h : r.Step env r') (hr : r.Lawful) : r'.Lawful where
  shaped := h.all Ann.shaped_closed Ann.shaped_asAdmitted hr.shaped
  exclusive := h.exclusive hr.exclusive
  ordered := h.ordered hr.ordered
  alertSlot := h.alertSlot hr.alertSlot

/-! ### Members -/

section

variable {s : State} {a : Ann} (ha : a.Members s)
include ha

/-- A record whose audience and joined set are emptied, and whose owed set shrinks. -/
theorem Ann.Members.off {b : Ann} (howed : b.owed.Sublist a.owed) (haudience : b.audience = []) (hjoined : b.joined = []) :
    b.Members s where
  owed := ha.owed.sublist howed
  audience := by rw [haudience]; exact List.nodup_nil
  joined := by rw [hjoined]; exact List.nodup_nil
  isOpen p hp := ha.isOpen p (howed.subset hp)
  drawn := by rw [haudience]; simp
  heard := by rw [hjoined]; simp

/-- A record whose joined set is drawn anew from its audience. -/
theorem Ann.Members.with_joined {b : Ann} (howed : b.owed = a.owed) (haudience : b.audience = a.audience)
    (hjoined : b.joined.Nodup) (hheard : ∀ p ∈ b.joined, p ∈ a.audience) : b.Members s where
  owed := howed ▸ ha.owed
  audience := haudience ▸ ha.audience
  joined := hjoined
  isOpen := howed ▸ ha.isOpen
  drawn := by rw [howed, haudience]; exact ha.drawn
  heard := by rw [haudience]; exact hheard

theorem Ann.Members.afterPlayout (joined : PortSet) : (a.afterPlayout joined).Members s := by
  unfold Ann.afterPlayout
  dsimp only
  split
  · exact ha.off List.filter_sublist rfl rfl
  · split <;> exact ha.off List.filter_sublist rfl rfl

theorem Ann.Members.ended (o : AnnOutcome) : (a.ended o).Members s := ha.off (List.Sublist.refl _) rfl rfl

theorem Ann.Members.withdraw (p : Port) : (a.withdraw p).Members s where
  owed := ha.owed.erase p
  audience := ha.audience.erase p
  joined := ha.joined.erase p
  isOpen q hq := ha.isOpen q (List.mem_of_mem_erase hq)
  drawn q hq := by
    rw [Ann.withdraw, ha.owed.mem_erase_iff]
    have := ha.audience.mem_erase_iff.1 hq
    exact ⟨this.1, ha.drawn q this.2⟩
  heard q hq := by
    rw [Ann.withdraw, ha.audience.mem_erase_iff]
    have := ha.joined.mem_erase_iff.1 hq
    exact ⟨this.1, ha.heard q this.2⟩

theorem Ann.Members.startLeadIn (c : Channel) : (a.startLeadIn s c).Members s where
  owed := ha.owed.filter _
  audience := (ha.owed.filter _).filter _
  joined := List.nodup_nil
  isOpen p hp := ha.isOpen p (List.mem_of_mem_filter hp)
  drawn p hp := List.mem_of_mem_filter hp
  heard p hp := by cases hp

theorem Ann.Members.depart (v : Vector PortRec 40) : (a.depart v).Members s := by
  unfold Ann.depart
  split
  · exact ha.with_joined rfl rfl (ha.joined.filter _) fun p hp => ha.heard p (List.mem_of_mem_filter hp)
  · exact ha

theorem Ann.Members.mono {t : State} (hopen : ∀ p, s.isOpen p = true → t.isOpen p = true) : a.Members t :=
  { ha with isOpen := fun p hp => hopen p (ha.isOpen p hp) }

theorem Ann.Members.move {b : Ann} (h : a.Move s b) : b.Members s := by
  cases h with
  | hold => exact ha.off (List.Sublist.refl _) rfl rfl
  | ended o => exact ha.ended o
  | afterPlayout => exact ha.afterPlayout _
  | unjoin => exact ha.with_joined rfl rfl List.nodup_nil fun p hp => by cases hp
  | startPlayout v => exact ha.with_joined rfl rfl (ha.audience.filter _) fun p hp => List.mem_of_mem_filter hp
  | requeue => exact ha.with_joined rfl rfl ha.joined ha.heard
  | withdraw p => exact ha.withdraw p
  | rearm n =>
    have howed : ∀ p, p ∈ (a.rearm s.openPorts n).owed ↔ p ∈ a.owed ∨ p ∈ s.openPorts := by
      intro p
      simp [Ann.rearm, allPorts]
    exact
      { owed := List.Nodup.filter (fun p => a.owed.contains p || s.openPorts.contains p) (List.nodup_finRange 40)
        audience := ha.audience
        joined := ha.joined
        isOpen := fun p hp => ((howed p).1 hp).elim (ha.isOpen p) fun hp => (List.mem_filter.1 hp).2
        drawn := fun p hp => (howed p).2 (.inl (ha.drawn p hp))
        heard := ha.heard }

end

theorem Roster.Step.members {s : State} {r r' : Roster} (h : r.Step s r') (hr : r.All (Ann.Members s)) :
    r'.All (Ann.Members s) := by
  cases h with
  | move ha hmove => exact hr.put ((hr _ _ ha).move hmove) _
  | grant ha => exact hr.put ((hr _ _ ha).startLeadIn _) _
  | preempt hb hair ha => exact (hr.put ((hr _ _ hb).move (.hold hair)) _).put ((hr _ _ ha).startLeadIn _) _
  | place _ _ hnodup hopen =>
    intro g x hx
    rw [Roster.rec_placed] at hx
    split at hx
    · cases hx
      exact
        { owed := hnodup, audience := List.nodup_nil, joined := List.nodup_nil, isOpen := hopen
          drawn := fun p hp => by cases hp
          heard := fun p hp => by cases hp }
    · exact hr g x hx
  | release => exact hr.free _

end Sys2Proof.Machine
end

section
/-! SUPPORT. The operations of the desk as changes of the Roster one after another, and which of them leave the wait list served
(spec/03 R58, R60; 04). -/

namespace Sys2Proof.Machine

open Sys2Proof

/-! ### Served wait lists -/

/-- The wait list stays served where every record on the air stays there on its channel and source, and no record begins to
wait (03 R58). -/
theorem Roster.Served.of_onAir {r r' : Roster} (hs : r.Served)
    (hwaits : ∀ g b, r'.rec? g = some b → b.waits = true → ∃ a, r.rec? g = some a ∧ a.waits = true ∧ a.source = b.source)
    (hair : ∀ g a, r.rec? g = some a → a.onAir = true →
      ∃ b, r'.rec? g = some b ∧ b.onAir = true ∧ b.channel = a.channel ∧ b.source = a.source) : r'.Served := by
  rintro ⟨c, hc⟩ g b hb hw hfree
  have hlowest : ∃ k, r.LowestFree k := Roster.lowestFree_of (k := c) fun g' a ha haair => by
    obtain ⟨b', hb', hbair, hchannel, -⟩ := hair g' a ha haair
    rw [← hchannel]
    exact hc.1 g' b' hb' hbair
  obtain ⟨a, ha, haw, hsource⟩ := hwaits g b hb hw
  refine hs hlowest g a ha haw fun hexcl g' x hx hxair hxs => ?_
  obtain ⟨y, hy, hyair, -, hys⟩ := hair g' x hx hxair
  rw [hsource] at hexcl hxs
  exact hfree hexcl g' y hy hyair (hys.trans hxs)

theorem Roster.Served.depart {r : Roster} (hs : r.Served) (v : Vector PortRec 40) : (r.depart v).Served := by
  refine hs.of_onAir (fun g b hb hw => ?_) fun g a ha hair => ⟨a.depart v, ?_⟩
  · rw [Roster.depart_rec] at hb
    obtain ⟨a, ha, rfl⟩ := Option.map_eq_some_iff.1 hb
    exact ⟨a, ha, by simpa using hw, (a.depart_source v).symm⟩
  · rw [Roster.depart_rec, ha]
    exact ⟨rfl, by simpa using hair, a.depart_channel v, a.depart_source v⟩

/-- A record replaced by one that neither waits nor leaves the air. -/
theorem Roster.Served.put {r : Roster} (hs : r.Served) {h : Handle} {a b : Ann} (ha : r.rec? h = some a)
    (hsource : b.source = a.source) (hwaits : b.waits = true → a.waits = true)
    (hair : a.onAir = true → b.onAir = true ∧ b.channel = a.channel) : (r.put h b).Served := by
  refine hs.of_onAir (fun g x hx hw => ?_) fun g x hx hxair => ?_
  · rw [Roster.rec_put] at hx
    split at hx
    · next e => cases hx; exact ⟨a, e ▸ ha, hwaits hw, hsource.symm⟩
    · exact ⟨x, hx, hw, rfl⟩
  · rw [Roster.rec_put]
    split
    · next e =>
      subst e
      rw [ha] at hx; cases hx
      exact ⟨b, rfl, (hair hxair).1, (hair hxair).2, hsource⟩
    · exact ⟨x, hx, hxair, rfl, rfl⟩

theorem Ann.waits_of_done {a : Ann} (h : a.state = .done) : a.waits = false := by simp [Ann.waits, h]

theorem Ann.onAir_of_done {a : Ann} (h : a.state = .done) : a.onAir = false := by simp [Ann.onAir, h]

/-- A slot whose record, if any, is DONE, and is DONE or FREE after, is nobody's resource. -/
theorem Roster.Served.of_others {r r' : Roster} (hs : r.Served) {h : Handle}
    (hdone : ∀ x, r.rec? h = some x → x.state = .done) (hdone' : ∀ x, r'.rec? h = some x → x.state = .done)
    (hothers : ∀ g, g ≠ h → r'.rec? g = r.rec? g) : r'.Served := by
  refine hs.of_onAir (fun g x hx hw => ?_) fun g x hx hxair => ?_
  · by_cases e : g = h
    · rw [Ann.waits_of_done (hdone' x (e ▸ hx))] at hw; cases hw
    · exact ⟨x, by rw [← hothers g e, hx], hw, rfl⟩
  · by_cases e : g = h
    · rw [Ann.onAir_of_done (hdone x (e ▸ hx))] at hxair; cases hxair
    · exact ⟨x, by rw [hothers g e, hx], hxair, rfl, rfl⟩

/-! ### Events at the Roster -/

/-- An event at the Roster: changes one after another that leave a served wait list served. -/
structure Roster.Event (env : State) (r r' : Roster) : Prop where
  steps : Roster.Steps env r r'
  served : r.Ordered → r.Served → r'.Served

theorem Roster.Steps.ordered {env : State} {r r' : Roster} (h : Roster.Steps env r r') : r.Ordered → r'.Ordered :=
  h.keeps fun _ _ => Roster.Step.ordered

theorem Roster.Event.refl (env : State) (r : Roster) : Roster.Event env r r := ⟨.refl, fun _ hs => hs⟩

section

variable {env : State} {d : Desk} {h : Handle} {a : Ann}

theorem Desk.update_of_rec (ha : d.roster.rec? h = some a) (f : Ann → Ann) :
    d.update h f = { d with roster := d.roster.put h (f a) } := by simp [Desk.update, ha]

theorem Desk.update_of_free (hfree : d.roster.rec? h = none) (f : Ann → Ann) : d.update h f = d := by
  simp [Desk.update, hfree]

theorem Desk.update_steps {f : Ann → Ann} (hf : ∀ a, d.roster.rec? h = some a → a.Move env (f a)) :
    Roster.Steps env d.roster (d.update h f).roster := by
  cases ha : d.roster.rec? h with
  | none => rw [Desk.update_of_free ha]
  | some a => rw [Desk.update_of_rec ha]; exact .single (.move ha (hf a ha))

theorem Desk.finish_steps (o : AnnOutcome) (h : Handle) : Roster.Steps env d.roster (d.finish o h).roster := by
  cases ha : d.roster.rec? h with
  | none => rw [Desk.finish, ha]; exact .refl
  | some a => rw [Desk.finish_eq ha]; exact .single (.move ha (.ended o))

theorem Desk.finish_rec (d : Desk) (o : AnnOutcome) (h g : Handle) :
    (d.finish o h).roster.rec? g = if g = h then (d.roster.rec? h).map (Ann.ended o) else d.roster.rec? g := by
  cases ha : d.roster.rec? h with
  | none =>
    rw [Desk.finish, ha]
    show d.roster.rec? g = _
    split
    · next e => rw [e, ha]; rfl
    · rfl
  | some a => rw [Desk.finish_eq ha]; exact Roster.rec_put _ _ _ _

theorem Desk.account_steps (hair : ∀ a, d.roster.rec? h = some a → a.onAir = true) :
    Roster.Steps env d.roster (d.account h).roster := by
  cases ha : d.roster.rec? h with
  | none => rw [Desk.account, ha]
  | some a => rw [Desk.account_eq ha]; exact .single (.move ha (.afterPlayout (hair a ha)))

/-! ### The scan and the join -/

/-- A grant of a waiting record, if a channel is FREE. -/
theorem Desk.grant_steps (ha : d.roster.rec? h = some a) (hwaits : a.waits = true)
    (hsource : d.roster.SourceFree a.source) : Roster.Steps env d.roster (d.grant env h).roster := by
  cases hc : d.roster.freeChannel with
  | none => rw [Desk.grant, ha, hc]
  | some c =>
    obtain ⟨a', c', ha', hc', hroster, -⟩ := Desk.grant_granted env ha hc
    rw [ha] at ha'; cases ha'
    rw [hroster]
    exact .single (.grant ha hwaits hc' hsource)

theorem Desk.offer_steps (env : State) (d : Desk) (h : Handle) : Roster.Steps env d.roster (d.offer env h).roster := by
  unfold Desk.offer
  split
  · next hok =>
    rw [Bool.and_eq_true] at hok
    obtain ⟨a, ha, htest⟩ := Roster.test_eq_true.1 hok.1
    rw [Bool.and_eq_true] at htest
    exact Desk.grant_steps ha htest.1 (Roster.sourceFree_iff.1 htest.2)
  · exact .refl

theorem Desk.scan_steps (env : State) (d : Desk) : Roster.Steps env d.roster (d.scan env).roster := by
  unfold Desk.scan
  suffices hfold : ∀ (l : List Handle) (d : Desk), Roster.Steps env d.roster (l.foldl (Desk.offer env) d).roster from
    hfold _ d
  intro l
  induction l with
  | nil => exact fun _ => .refl
  | cons h l ih => exact fun d => (Desk.offer_steps env d h).trans (ih _)

/-- Whatever an event has done, the scan leaves the wait list served. -/
theorem Roster.Event.of_scan {r : Roster} (hsteps : Roster.Steps env r d.roster) :
    Roster.Event env r (d.scan env).roster :=
  ⟨hsteps.trans (Desk.scan_steps env d), fun ho _ => Desk.scan_served env (hsteps.ordered ho)⟩

/-- A source that stands FREE stays so when a record leaves the air. -/
theorem Roster.SourceFree.put_hold {r : Roster} {src : Source} (hfree : r.SourceFree src) (v : Handle) (b : Ann) :
    (r.put v b.hold).SourceFree src := by
  intro hexcl g x hx hair
  rw [Option.mem_def, Roster.rec_put] at hx
  split at hx
  · cases hx; rw [Ann.hold_not_onAir] at hair; cases hair
  · exact hfree hexcl g x hx hair

/-- What the victim gives up is enough: its source, if that is what the joining record waits for, is held by no other (03 R56,
R60). -/
theorem Roster.victim_source {r : Roster} {v : Handle} {b : Ann} (hv : r.victim h = some v) (ha : r.rec? h = some a)
    (hb : r.rec? v = some b) (hbair : b.onAir = true) (hexcl : r.Exclusive) : (r.put v b.hold).SourceFree a.source := by
  by_cases hfree : r.sourceFree a.source = true
  · exact (Roster.sourceFree_iff.1 hfree).put_hold v b
  · have hholder : r.sourceHolder a.source = some v := by
      rw [Roster.victim, ha] at hv
      simp only [hfree, Bool.false_eq_true, if_false, Option.filter_eq_some_iff] at hv
      exact hv.1
    obtain ⟨x, hx, htest⟩ := Roster.test_eq_true.1 (List.find?_some hholder)
    rw [hb] at hx; cases hx
    have hbs : b.source = a.source := by simpa [hbair] using htest
    intro hx g x hgx hair hxs
    rw [Option.mem_def, Roster.rec_put] at hgx
    split at hgx
    · cases hgx; rw [Ann.hold_not_onAir] at hair; cases hair
    · next hne =>
      exact hne (hexcl g v x hgx b hb hair hbair (.inr ⟨hxs.trans hbs.symm, by rw [hxs]; exact hx⟩))

theorem Desk.preempt_steps {v : Handle} (hv : d.roster.victim h = some v) (ha : d.roster.rec? h = some a)
    (hwaits : a.waits = true) : Roster.Steps env d.roster ((d.update v Ann.hold).grant env h).roster := by
  obtain ⟨b, hb, hbair⟩ := Roster.victim_onAir hv
  have hne : h ≠ v := by
    rintro rfl
    rw [ha] at hb; cases hb
    rw [Ann.not_onAir_of_waits hwaits] at hbair; cases hbair
  rw [Desk.update_of_rec hb]
  have ha' : (d.roster.put v b.hold).rec? h = some a := by rw [Roster.rec_put, if_neg hne, ha]
  cases hc : (d.roster.put v b.hold).freeChannel with
  | none =>
    rw [Desk.grant]
    simp only [ha', hc]
    exact .single (.move hb (.hold hbair))
  | some c =>
    obtain ⟨a', c', hx, hlow, hroster, -⟩ := Desk.grant_granted env (d := { d with roster := d.roster.put v b.hold }) ha' hc
    simp only [ha', Option.some.injEq] at hx
    subst hx
    rw [hroster]
    exact .single (.preempt hb hbair ha hwaits hlow fun hexcl => Roster.victim_source hv ha hb hbair hexcl)

theorem Desk.join_event {r : Roster} (hsteps : Roster.Steps env r d.roster) : Roster.Event env r (d.join env h).roster := by
  have hscan := Roster.Event.of_scan hsteps
  unfold Desk.join
  dsimp only
  split
  · next hw =>
    obtain ⟨a, ha, hwaits⟩ := Roster.test_eq_true.1 hw
    split
    · next v hv => exact .of_scan (hscan.steps.trans (Desk.preempt_steps hv ha hwaits))
    · exact hscan
  · exact hscan

/-! ### Ends of playouts -/

theorem Desk.endRepetition_event {r : Roster} (hsteps : Roster.Steps env r d.roster)
    (hair : ∀ a, d.roster.rec? h = some a → a.onAir = true) : Roster.Event env r (d.endRepetition env h).roster :=
  .of_scan (hsteps.trans (Desk.account_steps hair))

theorem Desk.unjoin_onAir (hair : ∀ a, d.roster.rec? h = some a → a.onAir = true) :
    ∀ a, (d.update h Ann.unjoin).roster.rec? h = some a → a.onAir = true := by
  intro a ha
  rw [Desk.update_rec, if_pos rfl] at ha
  obtain ⟨x, hx, rfl⟩ := Option.map_eq_some_iff.1 ha
  exact hair x hx

theorem Desk.endPlayoutFrom_event (env : State) (src : Source) (reach : Bool) (d : Desk) :
    Roster.Event env d.roster (d.endPlayoutFrom env src reach).roster := by
  unfold Desk.endPlayoutFrom
  split
  · exact .refl _ _
  · next h hplaying =>
    obtain ⟨x, hx, hstate, -⟩ := Roster.playingFrom_state hplaying
    have hair : ∀ a, d.roster.rec? h = some a → a.onAir = true := fun a ha => by
      rw [hx] at ha; cases ha; exact Ann.onAir_of_playing hstate
    cases reach with
    | true => exact Desk.endRepetition_event .refl hair
    | false => exact Desk.endRepetition_event (Desk.update_steps fun _ _ => .unjoin) (Desk.unjoin_onAir hair)

theorem Desk.endAnnounce_event (ha : d.roster.rec? h = some a) (hlive : a.live = true) :
    Roster.Event env d.roster (d.endAnnounce env h a).roster := by
  have hfinish : Roster.Event env d.roster ((d.finish .ended h).scan env).roster :=
    .of_scan (Desk.finish_steps .ended h)
  have hthis : ∀ x, d.roster.rec? h = some x → x = a := fun x hx => by rw [ha] at hx; cases hx; rfl
  cases hs : a.state with
  | queued => rw [Desk.endAnnounce, hs]; exact hfinish
  | leadIn =>
    rw [Desk.endAnnounce, hs]
    exact Desk.endRepetition_event (Desk.update_steps fun _ _ => .unjoin)
      (Desk.unjoin_onAir fun x hx => hthis x hx ▸ Ann.onAir_of_leadIn hs)
  | playing =>
    rw [Desk.endAnnounce, hs]
    exact Desk.endRepetition_event .refl fun x hx => hthis x hx ▸ Ann.onAir_of_playing hs
  | gap => rw [Desk.endAnnounce, hs]; exact hfinish
  | held => rw [Desk.endAnnounce, hs]; exact hfinish
  | done => simp [Ann.live, hs] at hlive

/-- The lead-in end: no resource is given up at a playout start. -/
theorem Desk.leadInEnd_event (ha : d.roster.rec? h = some a) (hstate : a.state = .leadIn) :
    Roster.Event env d.roster (d.leadInEnd env h a).roster := by
  unfold Desk.leadInEnd
  split
  · exact Desk.endRepetition_event .refl fun x hx => by
      rw [ha] at hx; cases hx; exact Ann.onAir_of_leadIn hstate
  · rw [Desk.update_of_rec ha]
    refine ⟨.single (.move ha (.startPlayout _ hstate)), fun _ hs => hs.put ha rfl (fun hw => ?_) fun _ => ⟨?_, rfl⟩⟩
    · simp [Ann.startPlayout, Ann.waits] at hw
    · simp [Ann.startPlayout, Ann.onAir]

/-! ### Admissions -/

theorem Desk.enroll_event {owed : PortSet} {x : Ann} (hdone : ∀ x, d.roster.rec? h = some x → x.state = .done)
    (hslot : h = alertSlot → x.cls = .safety ∧ x.target = .all) (hnodup : owed.Nodup)
    (hopen : ∀ p ∈ owed, env.isOpen p = true) :
    Roster.Event env d.roster (d.enroll env h (x.asAdmitted owed)).roster := by
  have hplace : Roster.Steps env d.roster (d.roster.enroll h (x.asAdmitted owed)) := by
    rw [Roster.enroll_eq]
    exact .single (.place hdone hslot hnodup hopen)
  unfold Desk.enroll
  dsimp only
  split
  · refine ⟨hplace.trans (Desk.finish_steps (d := { d with roster := d.roster.enroll h (x.asAdmitted owed) }) _ h),
      fun _ hs => hs.of_others hdone ?_ fun g hg => ?_⟩
    · intro y hy
      rw [Desk.finish_rec, if_pos rfl] at hy
      obtain ⟨z, -, rfl⟩ := Option.map_eq_some_iff.1 hy
      rfl
    · rw [Desk.finish_rec, if_neg hg]
      dsimp only
      rw [Roster.rec_enroll, if_neg hg]
  · exact Desk.join_event (d := { d with roster := d.roster.enroll h (x.asAdmitted owed) }) hplace

theorem State.openPorts_nodup (s : State) : s.openPorts.Nodup := (List.nodup_finRange 40).filter _

theorem State.isOpen_of_mem_openPorts {s : State} {p : Port} (h : p ∈ s.openPorts) : s.isOpen p = true :=
  (List.mem_filter.1 h).2

theorem Desk.alertEntry_event (env : State) (d : Desk) : Roster.Event env d.roster (d.alertEntry env).roster := by
  unfold Desk.alertEntry
  split
  · next hlive =>
    obtain ⟨a, ha, -⟩ := Roster.test_eq_true.1 hlive
    rw [Desk.update_of_rec ha]
    exact ⟨.single (.move ha (.rearm _)), fun _ hs => hs.put ha rfl id fun hair => ⟨hair, rfl⟩⟩
  · next hdead =>
    refine Desk.enroll_event (fun x hx => ?_) (fun _ => ⟨rfl, rfl⟩) env.openPorts_nodup
      fun p hp => State.isOpen_of_mem_openPorts hp
    by_contra hstate
    exact hdead (Roster.test_eq_true.2 ⟨x, hx, by simpa [Ann.live] using hstate⟩)

/-! ### The retire -/

theorem Desk.retireFrom_steps (env : State) (p : Port) (d : Desk) (h : Handle) :
    Roster.Steps env d.roster (d.retireFrom p h).roster := by
  cases ha : d.roster.rec? h with
  | none => rw [Desk.retireFrom, ha]
  | some a =>
    have hwithdraw : Roster.Steps env d.roster (d.roster.put h (a.withdraw p)) := .single (.move ha (.withdraw p))
    have hrec : ∀ x, (d.roster.put h (a.withdraw p)).rec? h = some x → x.state = a.state := fun x hx => by
      rw [Roster.rec_put, if_pos rfl] at hx; cases hx; rfl
    have hfinish := hwithdraw.trans
      (Desk.finish_steps (env := env) (d := { d with roster := d.roster.put h (a.withdraw p) }) .complete h)
    rw [Desk.retireFrom, ha]
    dsimp only
    cases hs : a.state with
    | queued | held | gap => dsimp only; split; exacts [hfinish, hwithdraw]
    | leadIn | done => exact hwithdraw
    | playing =>
      dsimp only
      split
      · exact hwithdraw.trans (Desk.account_steps (d := { d with roster := d.roster.put h (a.withdraw p) })
          fun x hx => Ann.onAir_of_playing ((hrec x hx).trans hs))
      · exact hwithdraw

theorem Desk.retire_event (env : State) (p : Port) (d : Desk) : Roster.Event env d.roster (d.retire env p).roster := by
  refine .of_scan ?_
  suffices hfold : ∀ (l : List Handle) (d : Desk), Roster.Steps env d.roster (l.foldl (Desk.retireFrom p) d).roster from
    hfold _ d
  intro l
  induction l with
  | nil => exact fun _ => .refl
  | cons h l ih => exact fun d => (Desk.retireFrom_steps env p d h).trans (ih _)

end

end Sys2Proof.Machine
end

section
/-! SUPPORT. What each effect makes of the Roster, and the laws of the Roster that every step keeps (spec/03, spec/04). -/

namespace Sys2Proof.Machine

open Sys2Proof

/-! ### The Roster after an effect -/

theorem State.owedSet_nodup (s : State) (t : Target) (language : Option (Fin 16)) : (s.owedSet t language).Nodup :=
  (List.nodup_finRange 40).filter _

theorem State.isOpen_of_mem_owedSet {s : State} {t : Target} {language : Option (Fin 16)} {p : Port}
    (h : p ∈ s.owedSet t language) : s.isOpen p = true := by
  obtain ⟨i, hi, -⟩ := (Option.any_eq_true ..).1 (List.mem_filter.1 h).2
  unfold State.image at hi
  unfold State.isOpen
  obtain ⟨b, hb, -⟩ := Option.map_eq_some_iff.1 hi
  rw [hb]; rfl

/-- An event at the Roster, seen from a state whose table is that of `u`, leads from the records of `s` to those of `u`. -/
def State.RosterEvent (s u : State) : Prop := ∃ env : State, env.slots = u.slots ∧ Roster.Event env s.roster u.roster

theorem State.RosterEvent.of_same {s u : State} (h : u.roster = s.roster) : s.RosterEvent u :=
  ⟨u, rfl, by rw [h]; exact .refl _ _⟩

theorem State.RosterEvent.atDesk {s : State} {f : State → Desk → Desk}
    (h : ∀ d : Desk, d.roster = s.roster → Roster.Event s d.roster (f s d).roster) : s.RosterEvent (s.atDesk f) :=
  ⟨s, rfl, h { roster := s.roster, coach := s.events.coach } rfl⟩

theorem State.RosterEvent.endPlayout {s u : State} (hroster : u.roster = s.roster) (f : FeedIx) (reach : Bool) :
    s.RosterEvent (u.endPlayout f reach) := by
  unfold State.endPlayout
  split
  · exact .of_same hroster
  · next src _ =>
    obtain ⟨env, hslots, hevent⟩ := State.RosterEvent.atDesk (s := u) (f := fun env => Desk.endPlayoutFrom env src reach)
      fun d _ => Desk.endPlayoutFrom_event u src reach d
    exact ⟨env, hslots, hroster ▸ hevent⟩

theorem State.DeskEffect.rosterEvent {s u : State} (h : s.DeskEffect u) : s.RosterEvent u := by
  cases h with
  | announce q target h hfree =>
    have hfind := List.find?_some hfree
    rw [Bool.and_eq_true, decide_eq_true_eq, Option.isNone_iff_eq_none] at hfind
    refine .atDesk fun d hd => Desk.enroll_event (fun x hx => ?_) (fun e => ?_) (s.owedSet_nodup _ _)
      fun p hp => State.isOpen_of_mem_owedSet hp
    · rw [hd, hfind.2] at hx; cases hx
    · rw [e] at hfind
      exact absurd hfind.1 (by decide)
  | endAnnounce h a ha hlive => exact .atDesk fun d hd => Desk.endAnnounce_event (hd ▸ ha) hlive
  | cancelAnnounce h a ha hlive =>
    exact .atDesk fun d _ => .of_scan (Desk.finish_steps .cancelled h)
  | releaseAnnounce h a ha hlive =>
    have hdone : a.state = .done := by simpa [Ann.live] using hlive
    refine ⟨s, rfl, .single .release, fun _ hs => hs.of_others (h := h) (fun x hx => ?_) (fun x hx => ?_) fun g hg => ?_⟩
    · rw [ha] at hx; cases hx; exact hdone
    · rw [Roster.rec_free, if_pos rfl] at hx; cases hx
    · rw [Roster.rec_free, if_neg hg]
  | leadInEnd h a ha hstate => exact .atDesk fun d hd => Desk.leadInEnd_event (hd ▸ ha) hstate
  | durationExpiry h a ha hstate =>
    refine .atDesk fun d hd => Desk.endRepetition_event .refl fun x hx => ?_
    rw [hd, ha] at hx; cases hx; exact Ann.onAir_of_playing hstate
  | gapExpiry h a ha hstate =>
    refine .atDesk fun d hd => Desk.join_event (Desk.update_steps fun x hx => ?_)
    rw [hd, ha] at hx; cases hx; exact .requeue hstate
  | configureFeed => exact .of_same rfl
  | unconfigureFeed f => exact .endPlayout rfl f _
  | stall f => exact .endPlayout rfl f _
  | dataTaken g =>
    unfold State.dataTaken
    dsimp only
    split <;> exact .of_same rfl
  | endTaken g =>
    unfold State.endTaken
    split
    · exact .endPlayout rfl _ _
    · exact .of_same rfl

theorem State.atDesk_roster (s : State) (f : State → Desk → Desk) :
    (s.atDesk f).roster = (f s { roster := s.roster, coach := s.events.coach }).roster := rfl

theorem State.retireBerth_roster (s : State) (p : Port) : (s.retireBerth p).roster =
    (Desk.retire (s.putSlots (s.slots.set p.val none)) p { roster := s.roster, coach := s.events.coach }).roster := by
  unfold State.retireBerth
  rw [State.copyIfIdle_roster, State.dropCall_roster, State.atDesk_roster, State.putSlots_roster, State.putSlots_events]

theorem State.rosterEvent_retireBerth (s : State) (p : Port) : s.RosterEvent (s.retireBerth p) := by
  refine ⟨s.putSlots (s.slots.set p.val none), (s.retireBerth_slots p).symm, ?_⟩
  rw [State.retireBerth_roster]
  exact Desk.retire_event _ p { roster := s.roster, coach := s.events.coach }

/-- Alert entry up to the Roster (08 R130). -/
def State.alertClaims (s : State) : State := ((s.alertTo .active).flagCoach .alert).claimAll fun _ => Image.rouse

theorem State.alertEntry_eq (s : State) : s.alertEntry = s.alertClaims.atDesk Desk.alertEntry := rfl

theorem State.rosterEvent_alertEntry (s : State) (level : Level) : s.RosterEvent (s.alertLevel level).alertEntry := by
  have hlines : (s.alertLevel level).SameLines (s.alertLevel level).alertClaims :=
    ((State.SameLines.alertTo _ _).trans (.flagCoach _ _)).trans (.mapBerths _ _)
  obtain ⟨env, hslots, hevent⟩ := State.RosterEvent.atDesk (s := (s.alertLevel level).alertClaims) (f := Desk.alertEntry)
    fun d _ => Desk.alertEntry_event _ d
  exact ⟨env, hslots, hlines.roster ▸ hevent⟩

/-- No command at the ports changes the Roster, but that power good hands the desired audio to it. -/
theorem State.LineEffect.roster {s u : State} (h : s.LineEffect u) : u.roster = s.roster ∨ ∃ v, u.roster = s.roster.depart v := by
  cases h with
  | powerGood p =>
    refine .inr ⟨(s.mapPort p (PortRec.linkUp s.timing)).resolved, ?_⟩
    unfold State.wakePoller
    dsimp only
    split
    · rw [State.startTurn_roster]; rfl
    · rfl
  | portPower q =>
    unfold State.portPower
    dsimp only
    split <;> split <;> simp [State.dropPort, State.leaveLink, State.powerOn]
  | setPollMode q =>
    refine .inl ?_
    suffices h : ∀ (l : List Deck) (t : State), (l.foldl (fun t d => t.setMode q.mode d) t).roster = t.roster from h _ s
    intro l
    induction l with
    | nil => exact fun _ => rfl
    | cons d l ih =>
      intro t
      rw [List.foldl_cons, ih, State.setMode]
      split <;> simp
  | presenceFall p | powerFault p | powerGoodExpiry p | dischargeEnd p | linkExpiry p =>
    simp [State.dropPort, State.leaveLink]
  | portConfig | ackBerthEvents | presenceRise => exact .inl rfl

/-- The Roster of `u` is empty, or comes from that of `s` by an event and perhaps departures. -/
def State.RosterCase (s u : State) : Prop :=
  ((∀ h, u.roster.rec? h = none) ∧ u.roster.order = []) ∨ s.RosterEvent u ∨ ∃ v, u.roster = s.roster.depart v

theorem Roster.atReset_rec (h : Handle) : Roster.atReset.rec? h = none := by simp [Roster.rec?, Roster.atReset]

theorem State.Effect.rosterCase {s u : State} (h : s.Effect u) : s.RosterCase u := by
  cases h with
  | reset pins =>
    refine .inl ?_
    rw [(State.readSenses_ports_only _).1]
    exact ⟨Roster.atReset_rec, rfl⟩
  | tripReset =>
    refine .inl ?_
    rw [State.tripReset, State.copyIfIdle_roster]
    exact ⟨Roster.atReset_rec, rfl⟩
  | retireBerth p => exact .inr (.inl (s.rosterEvent_retireBerth p))
  | alertEntry level => exact .inr (.inl (s.rosterEvent_alertEntry level))
  | turn d t report =>
    refine .inr (.inr ⟨(s.turnResult t report).resolved, ?_⟩)
    rw [State.nextTurn, State.startTurn_roster, State.mapPoller_roster, ← (s.sameDesk_turnResult t report).1]
    rfl
  | table h => exact .inr (.inl (.of_same h.sameLines.roster))
  | desk h => exact .inr (.inl h.rosterEvent)
  | line h => exact .inr (h.roster.imp_left .of_same)
  | register h => exact .inr (.inl (.of_same h.sameLines.roster))

/-! ### A law of the Roster -/

/-- A law of the Roster that holds of an empty one, and that events and departures keep, is kept by every step. -/
theorem State.roster_kept {I : Roster → Prop} (hempty : ∀ r : Roster, (∀ h, r.rec? h = none) → r.order = [] → I r)
    (hevent : ∀ env r r', Roster.Event env r r' → I r → I r') (hdepart : ∀ v (r : Roster), I r → I (r.depart v)) :
    ∀ s t : State, I s.roster → step s = .next t → I t.roster := by
  refine State.kept_of_effects (I := fun s => I s.roster) (fun s t h hs => ?_)
    (fun s u h hs => ?_) fun u hu => hdepart _ _ hu
  · exact h.elim (motive := fun t => I t.roster) fun _ _ _ _ _ _ _ => hs
  rcases h.rosterCase with ⟨hrec, horder⟩ | ⟨env, -, he⟩ | ⟨v, hv⟩
  · exact hempty _ hrec horder
  · exact hevent env _ _ he hs
  · rw [hv]; exact hdepart v _ hs

theorem State.balanced_kept : ∀ s t : State, s.Balanced → step s = .next t → t.Balanced := by
  have hlaw : ∀ s t : State, s.roster.All Ann.Balanced → step s = .next t → t.roster.All Ann.Balanced :=
    State.roster_kept (fun r hrec _ h a ha => by rw [hrec] at ha; cases ha)
      (fun env r r' he => he.steps.keeps fun _ _ h => h.all Ann.balanced_closed Ann.balanced_asAdmitted)
      fun v r hr => hr.depart Ann.balanced_closed v
  exact hlaw

/-! ### The lawful Roster -/

theorem Roster.Exclusive.depart {r : Roster} (hr : r.Exclusive) (v : Vector PortRec 40) : (r.depart v).Exclusive := by
  have hback : ∀ g x, (r.depart v).rec? g = some x → ∃ y, r.rec? g = some y ∧ x = y.depart v := by
    intro g x hx
    rw [Roster.depart_rec] at hx
    obtain ⟨y, hy, hxy⟩ := Option.map_eq_some_iff.1 hx
    exact ⟨y, hy, hxy.symm⟩
  intro g g' x hx y hy hxair hyair hclash
  obtain ⟨x, hx', rfl⟩ := hback g x hx
  obtain ⟨y, hy', rfl⟩ := hback g' y hy
  simp only [Ann.depart_onAir, Ann.depart_channel, Ann.depart_source] at hxair hyair hclash
  exact hr g g' x hx' y hy' hxair hyair hclash

theorem Roster.Lawful.depart {r : Roster} (hr : r.Lawful) (v : Vector PortRec 40) : (r.depart v).Lawful where
  shaped := Roster.All.depart Ann.shaped_closed (show r.All Ann.Shaped from hr.shaped) v
  exclusive := hr.exclusive.depart v
  ordered := ⟨hr.ordered.1, fun h => by rw [Roster.depart_order, hr.ordered.2 h, Roster.depart_rec, Option.isSome_map]⟩
  alertSlot x hx := by
    rw [Option.mem_def, Roster.depart_rec] at hx
    obtain ⟨y, hy, rfl⟩ := Option.map_eq_some_iff.1 hx
    rw [Ann.depart_cls, Ann.depart_target]
    exact hr.alertSlot y hy

theorem Roster.lawful_of_empty {r : Roster} (hrec : ∀ h, r.rec? h = none) (horder : r.order = []) : r.Lawful where
  shaped h a ha := by rw [Option.mem_def, hrec] at ha; cases ha
  exclusive g h a ha := by rw [Option.mem_def, hrec] at ha; cases ha
  ordered := ⟨by rw [horder]; exact List.nodup_nil, fun h => by rw [horder, hrec]; simp⟩
  alertSlot a ha := by rw [Option.mem_def, hrec] at ha; cases ha

theorem Roster.served_of_empty {r : Roster} (hrec : ∀ h, r.rec? h = none) : r.Served :=
  fun _ h a ha => by rw [Option.mem_def, hrec] at ha; cases ha

theorem Roster.Event.lawful {env : State} {r r' : Roster} (h : Roster.Event env r r') : r.Lawful → r'.Lawful :=
  h.steps.keeps fun _ _ => Roster.Step.lawful

/-! ### Members -/

theorem State.Effect.isOpen {s u : State} (h : s.Effect u) :
    ((∀ h, u.roster.rec? h = none) ∨ ∃ p, u = s.retireBerth p) ∨ ∀ p, s.isOpen p = true → u.isOpen p = true := by
  have hsame : ∀ {u : State}, s.SameTable u → ∀ p, s.isOpen p = true → u.isOpen p = true := fun h p hp => by
    rw [h.tableKept.isOpen]; exact hp
  cases h with
  | reset pins =>
    refine .inl (.inl ?_)
    rw [(State.readSenses_ports_only _).1]
    exact Roster.atReset_rec
  | tripReset =>
    refine .inl (.inl ?_)
    rw [State.tripReset, State.copyIfIdle_roster]
    exact Roster.atReset_rec
  | retireBerth p => exact .inl (.inr ⟨p, rfl⟩)
  | alertEntry level =>
    refine .inr fun p hp => ?_
    rw [(State.tableKept_alertEntry _).isOpen]
    exact hp
  | turn d t report =>
    refine .inr fun p hp => ?_
    rw [(State.SameTable.nextTurn _ d).tableKept.isOpen]
    exact State.turnResult_induction (I := fun u => u.isOpen p = true) (fun _ _ _ h => h)
      (fun u q n h => State.presses_induction (I := fun u => u.isOpen p = true) q (fun _ _ h => h)
        (fun v b _ _ h => by rw [(v.tableKept_answerCall q).isOpen]; exact h)
        (fun v b f after hb hw hf h => by rw [(State.tableKept_pressClaim hb hw hf).isOpen]; exact h)
        (fun _ h => h) n u h)
      (fun u q l h => State.passengers_induction (I := fun u => u.isOpen p = true) q
        (fun v code value h => by rw [(v.tableKept_passenger q code value).isOpen]; exact h) l u h) t report s hp
  | table h =>
    refine .inr fun p hp => ?_
    rcases h.tableKept with hkept | ⟨q, -, -, rfl⟩
    · rw [hkept.isOpen]; exact hp
    · exact State.openBerth_isOpen hp
  | desk h => exact .inr (hsame h.sameTable)
  | line h => exact .inr (hsame h.sameTable)
  | register h => exact .inr (hsame h.sameTable)

theorem Ann.Members.ended_of {s : State} {a : Ann} {p : Port} (ha : a.Members s) : (a.afterRetire p).Members s := by
  unfold Ann.afterRetire
  have hwithdraw : ({ a with
      owed := a.owed.erase p, audience := a.audience.erase p, joined := a.joined.erase p
      withdrawn := a.withdrawn + if p ∈ a.owed then 1 else 0 } : Ann).Members s := by
    have h := ha.withdraw p
    exact ⟨h.owed, h.audience, h.joined, h.isOpen, h.drawn, h.heard⟩
  dsimp only
  split
  · exact hwithdraw.ended _
  · split
    · exact hwithdraw.afterPlayout _
    · exact hwithdraw

/-- A retire takes the port out of every owed set, whatever becomes of the record (01 R16). -/
theorem Ann.afterRetire_owed {p q : Port} {a : Ann} (h : q ∈ (a.afterRetire p).owed) : q ∈ a.owed.erase p := by
  unfold Ann.afterRetire at h
  dsimp only at h
  split at h
  · exact h
  · split at h
    · unfold Ann.afterPlayout at h
      dsimp only at h
      split at h
      · exact List.mem_of_mem_filter h
      · split at h <;> exact List.mem_of_mem_filter h
    · exact h

theorem State.membersLawful_retireBerth {s : State} (p : Port) (hs : s.MembersLawful) : (s.retireBerth p).MembersLawful := by
  have hall : s.roster.All (Ann.Members s) := hs
  have hheard : ∀ h : Handle, ∀ a ∈ s.roster.rec? h, a.audience.erase p = [] → a.joined.erase p = [] := by
    intro h a ha hempty
    rw [List.eq_nil_iff_forall_not_mem] at hempty ⊢
    exact fun q hq => hempty q (((hs h a ha).withdraw p).heard q hq)
  have hopen : ∀ q, s.isOpen q = true → q ≠ p → (s.retireBerth p).isOpen q = true := fun q hq hne => by
    unfold State.isOpen at hq ⊢
    rw [State.retireBerth_slots_get, if_neg hne]
    exact hq
  have hafter : ((Desk.afterRetire p { roster := s.roster, coach := s.events.coach }).roster).All
      (Ann.Members (s.retireBerth p)) := by
    intro h b hb
    have hrec : (s.roster.rec? h).map (Ann.afterRetire p) = some b := by
      simpa [Desk.afterRetire, Roster.rec?] using hb
    obtain ⟨a, ha, rfl⟩ := Option.map_eq_some_iff.1 hrec
    have hmem := (hs h a ha).ended_of (p := p)
    refine { hmem with isOpen := fun q hq => hopen q (hmem.isOpen q hq) ?_ }
    rintro rfl
    exact (hs h a ha).owed.not_mem_erase (Ann.afterRetire_owed hq)
  have hroster : (s.retireBerth p).roster =
      (Desk.scan (s.putSlots (s.slots.set p.val none)) (Desk.afterRetire p { roster := s.roster, coach := s.events.coach })).roster := by
    rw [State.retireBerth_roster, Desk.retire_eq _ _ hheard]
  intro h a ha
  rw [hroster] at ha
  have hmono : ∀ (x : State), x.slots = (s.retireBerth p).slots → ∀ a : Ann, a.Members (s.retireBerth p) → a.Members x :=
    fun x hx a ha => ha.mono fun q hq => by unfold State.isOpen at hq ⊢; rw [hx]; exact hq
  have hslots : (s.putSlots (s.slots.set p.val none)).slots = (s.retireBerth p).slots :=
    (s.retireBerth_slots p).symm
  have hscan := (Desk.scan_steps (s.putSlots (s.slots.set p.val none))
    (Desk.afterRetire p { roster := s.roster, coach := s.events.coach })).keeps
    (fun _ _ => Roster.Step.members) fun g b hb => hmono _ hslots b (hafter g b hb)
  exact (hscan h a ha).mono fun q hq => by unfold State.isOpen at hq ⊢; rw [← hslots]; exact hq

theorem State.membersLawful_of_roster {s u : State} (hs : s.MembersLawful) (hopen : ∀ p, s.isOpen p = true → u.isOpen p = true)
    (h : s.RosterEvent u ∨ ∃ v, u.roster = s.roster.depart v) : u.MembersLawful := by
  have hall : s.roster.All (Ann.Members u) := fun h a ha => (hs h a ha).mono hopen
  rcases h with ⟨env, hslots, he⟩ | ⟨v, hv⟩
  · have hsame : ∀ p, env.isOpen p = u.isOpen p := fun p => by unfold State.isOpen; rw [hslots]
    have henv := he.steps.keeps (fun _ _ => Roster.Step.members)
      fun g a ha => (hall g a ha).mono fun p hp => by rw [hsame]; exact hp
    exact fun h a ha => (henv h a ha).mono fun p hp => by rw [← hsame]; exact hp
  · intro h a ha
    rw [hv, Option.mem_def, Roster.depart_rec] at ha
    obtain ⟨x, hx, rfl⟩ := Option.map_eq_some_iff.1 ha
    exact (hall h x hx).depart v

theorem State.membersLawful_of_empty {u : State} (h : ∀ h, u.roster.rec? h = none) : u.MembersLawful :=
  fun g a ha => by rw [Option.mem_def, h] at ha; cases ha

theorem State.membersLawful_kept : ∀ s t : State, s.MembersLawful → step s = .next t → t.MembersLawful := by
  refine State.kept_of_effects (fun s t h hs => ?_) (fun s u h hs => ?_) fun u hu => ?_
  · exact State.membersLawful_of_roster hs (fun p hp => by rw [h.sameTable.tableKept.isOpen]; exact hp)
      (.inl (.of_same (h.elim (motive := fun t => t.roster = s.roster) fun _ _ _ _ _ _ _ => rfl)))
  · rcases h.isOpen with (hempty | ⟨p, rfl⟩) | hopen
    · exact State.membersLawful_of_empty hempty
    · exact State.membersLawful_retireBerth p hs
    · rcases h.rosterCase with ⟨hempty, -⟩ | hevent
      · exact State.membersLawful_of_empty hempty
      · exact State.membersLawful_of_roster hs hopen hevent
  · exact State.membersLawful_of_roster hu (fun p hp => by rw [(State.SameTable.settle u).tableKept.isOpen]; exact hp)
      (.inr ⟨u.resolved, rfl⟩)

end Sys2Proof.Machine
end

section
/-! PROOF. The laws of the Roster (spec/03, spec/04). -/

namespace Sys2Proof.Proofs

open Sys2Proof Sys2Proof.Machine

/-- Settles O9: every move of a record keeps its balance, and an admission makes one in balance. -/
theorem balanceKept : Obligations.BalanceKept := State.balanced_kept

/-- Settles O10: every move of a record draws its sets from one another, and a retire takes the port out of all of them. -/
theorem membersKept : Obligations.MembersKept := State.membersLawful_kept

/-- Settles O11: the changes of the Roster keep its laws one by one, and every event that gives up a resource ends in the
scan. -/
theorem rosterLawfulKept : Obligations.RosterLawfulKept := by
  refine ⟨State.roster_kept (fun r => Roster.lawful_of_empty) (fun _ _ _ h => h.lawful) fun v r hr => hr.depart v,
    fun s t hlawful hserved hstep => ?_⟩
  have hboth : ∀ s t : State, s.roster.Lawful ∧ s.roster.Served → step s = .next t → t.roster.Lawful ∧ t.roster.Served :=
    State.roster_kept (I := fun r => r.Lawful ∧ r.Served)
      (fun r hrec horder => ⟨Roster.lawful_of_empty hrec horder, Roster.served_of_empty hrec⟩)
      (fun _ _ _ h hr => ⟨h.lawful hr.1, h.served hr.1.ordered hr.2⟩) fun v r hr => ⟨hr.1.depart v, hr.2.depart v⟩
  exact (hboth s t ⟨hlawful, hserved⟩ hstep).2

end Sys2Proof.Proofs
end

section
/-! SUPPORT. The port records and the turns in flight: which moves of a port keep its law, and how a law of the ports is kept by
every step (spec/09 R138 to R145; 10 R158, R161). -/

namespace Sys2Proof.Machine

open Sys2Proof

/-! ### One port record -/

/-- The two records agree in every field that the law of a port reads. -/
structure PortRec.Alike (r r' : PortRec) : Prop where
  state : r'.state = r.state
  switch : r'.switch = r.switch
  cause : r'.cause = r.cause
  command : r'.command = r.command
  timer : r'.timer = r.timer
  desired : r'.desired = r.desired
  lastSent : r'.lastSent = r.lastSent
  acked : r'.acked = r.acked

section

variable {r r' : PortRec} {sense : Bool}

theorem PortRec.Lawful.congr (h : r.Lawful sense) (k : r.Alike r') : r'.Lawful sense := by
  rw [PortRec.lawful_iff] at h ⊢
  unfold PortRec.timerFits PortRec.poweringUp at h ⊢
  rw [k.state, k.switch, k.cause, k.command, k.timer, k.desired, k.lastSent, k.acked]
  exact h

theorem PortRec.alike_setFlag (r : PortRec) (k : BerthKind) : r.Alike (r.setFlag k) := ⟨rfl, rfl, rfl, rfl, rfl, rfl, rfl, rfl⟩

theorem PortRec.Lawful.setFlag (h : r.Lawful sense) (k : BerthKind) : (r.setFlag k).Lawful sense :=
  h.congr (r.alike_setFlag k)

/-- The timer a port runs, state by state (09 R143, R144). -/
theorem PortRec.timerFits_iff (r : PortRec) : r.timerFits = true ↔
    (r.state = .powering ∧ (r.command = some .powerOn ∧ r.timer.any PortTimer.isPowerGood = true ∨
        r.command = some .powerOff ∧ r.timer.any PortTimer.isDischarge = true)) ∨
      (r.state = .linking ∧ r.command = none ∧ r.timer.any PortTimer.isLink = true) ∨
      (r.state ≠ .powering ∧ r.state ≠ .linking ∧ r.command = none ∧ r.timer = none) := by
  unfold PortRec.timerFits
  rcases r.timer with _ | (_ | _ | _) <;> rcases r.command with _ | (_ | _) <;> cases r.state <;>
    simp [PortTimer.isPowerGood, PortTimer.isDischarge, PortTimer.isLink]

theorem PortRec.Lawful.command_none (h : r.Lawful sense) (hstate : r.state ≠ .powering) : r.command = none := by
  rcases r.timerFits_iff.1 h.timer with ⟨hs, -⟩ | ⟨-, hcommand, -⟩ | ⟨-, -, hcommand, -⟩
  · exact absurd hs hstate
  · exact hcommand
  · exact hcommand

/-- The state whose timer a port runs. -/
theorem PortRec.Lawful.state_of_timer (h : r.Lawful sense) :
    (r.timer.any PortTimer.isPowerGood = true → r.state = .powering) ∧
      (r.timer.any PortTimer.isDischarge = true → r.state = .powering) ∧
      (r.timer.any PortTimer.isLink = true → r.state = .linking) := by
  have htimer := h.timer
  unfold PortRec.timerFits at htimer
  revert htimer
  rcases r.timer with _ | (_ | _ | _) <;> cases r.state <;> rcases r.command with _ | (_ | _) <;>
    simp [PortTimer.isPowerGood, PortTimer.isDischarge, PortTimer.isLink]

/-- A port that is powered is in a state other than EMPTY. -/
theorem PortRec.Lawful.plugged_of_powered (h : r.Lawful sense) (hpowered : r.powered = true) : r.state ≠ .empty := by
  have hclosed : r.switch = .closed := by simpa [PortRec.powered] using hpowered
  rcases h.switch.1 hclosed with hs | hs | hs
  · rw [hs]; decide
  · rw [hs]; decide
  · simp only [PortRec.poweringUp, Bool.and_eq_true, decide_eq_true_eq] at hs
    rw [hs.1]; decide

/-- A record that has just entered a state which no command and no timer goes with. -/
theorem PortRec.lawful_enter_resting {st : PortState} {sense : Bool} (hcommand : r.command = none)
    (hst : st = .empty ∧ sense = false ∨ st = .present ∧ sense = true) :
    (r.enter st .opened none).Lawful sense := by
  rw [PortRec.lawful_iff]
  rcases hst with ⟨rfl, rfl⟩ | ⟨rfl, rfl⟩ <;>
    simp [PortRec.enter, PortRec.timerFits, PortRec.poweringUp, hcommand]

/-- A record in FAULT with its cause, no command in flight. -/
theorem PortRec.lawful_fail (hcommand : r.command = none) (c : FaultCause) (k : BerthKind) : (r.fail c k).Lawful true := by
  refine PortRec.Lawful.setFlag ?_ k
  rw [PortRec.lawful_iff]
  simp [PortRec.enter, PortRec.timerFits, PortRec.poweringUp, hcommand]

theorem PortRec.completeAny_command (o : CommandOutcome) : (r.completeAny o).command = none := by
  unfold PortRec.completeAny
  split
  · rfl
  · next h => simpa using h

theorem PortRec.lawful_powerFailed : r.powerFailed.Lawful true := PortRec.lawful_fail (PortRec.completeAny_command _) _ _

theorem PortRec.lawful_powerOn (timing : PortTiming) (sensed : Bool) : (r.powerOn timing sensed).Lawful true := by
  unfold PortRec.powerOn
  dsimp only
  split
  · exact PortRec.lawful_powerFailed
  · rw [PortRec.lawful_iff]
    simp [PortRec.enter, PortRec.timerFits, PortRec.poweringUp]

theorem PortRec.lawful_powerOff : r.powerOff.Lawful true := by
  rw [PortRec.lawful_iff]
  simp [PortRec.powerOff, PortRec.enter, PortRec.timerFits, PortRec.poweringUp]

theorem PortRec.lawful_linkUp (timing : PortTiming) : (r.linkUp timing).Lawful true := by
  rw [PortRec.lawful_iff]
  simp [PortRec.linkUp, PortRec.complete, PortRec.setFlag, PortRec.enter, PortRec.timerFits, PortRec.poweringUp]

theorem PortRec.lawful_discharged : r.discharged.Lawful true := PortRec.lawful_enter_resting rfl (.inr ⟨rfl, rfl⟩)

theorem PortRec.lawful_fall : r.fall.Lawful false := by
  refine PortRec.Lawful.setFlag ?_ _
  exact (PortRec.lawful_enter_resting (PortRec.completeAny_command .aborted) (.inl ⟨rfl, rfl⟩)).congr
    ⟨rfl, rfl, rfl, rfl, rfl, rfl, rfl, rfl⟩

theorem PortRec.lawful_rise (h : r.Lawful false) (timing : PortTiming) (sensed : Bool) :
    (r.rise timing sensed).Lawful true := by
  have hempty : r.state = .empty := h.sense.2 rfl
  unfold PortRec.rise
  split
  · exact PortRec.lawful_powerOn _ _
  · exact (PortRec.lawful_enter_resting (h.command_none (by rw [hempty]; decide)) (.inr ⟨rfl, rfl⟩)).setFlag _

/-- A command that completes at once leaves the state, and no command was in flight (09 R142). -/
theorem PortRec.Lawful.doneAtOnce (h : r.Lawful sense) (hidle : r.command = none) (v : PowerRequest) :
    (r.doneAtOnce v).Lawful sense :=
  PortRec.Lawful.congr h ⟨rfl, rfl, rfl, hidle.symm, rfl, rfl, rfl, rfl⟩

theorem PortRec.atReset_lawful (p : Port) : (PortRec.atReset p).Lawful false := by
  rw [PortRec.lawful_iff]
  simp [PortRec.atReset, PortRec.timerFits, PortRec.poweringUp]

/-- A lawful port whose state is not EMPTY has its presence sense high. -/
theorem PortRec.Lawful.sense_high (h : r.Lawful sense) (hplugged : r.state ≠ .empty) : sense = true := by
  have := h.sense
  cases sense
  · exact absurd (this.2 rfl) hplugged
  · rfl

/-- Of an ACTIVE port the presentations and what a unit reports may change. -/
theorem PortRec.Lawful.with_presentations (h : r.Lawful sense) (hactive : r.state = .active) (hstate : r'.state = r.state)
    (hswitch : r'.switch = r.switch) (hcause : r'.cause = r.cause) (hcommand : r'.command = r.command)
    (htimer : r'.timer = r.timer) : r'.Lawful sense where
  sense := hstate ▸ h.sense
  switch := by unfold PortRec.poweringUp; rw [hstate, hswitch, hcommand]; exact h.switch
  cause := by rw [hcause, hstate]; exact h.cause
  timer := by unfold PortRec.timerFits; rw [hstate, hcommand, htimer]; exact h.timer
  delivery := .inl (hstate.trans hactive)

/-- The Identify answer of a LINKING port makes it ACTIVE or FAULT (09 R144). -/
theorem PortRec.lawful_identify (h : r.Lawful true) (hlinking : r.state = .linking) (rep : UnitReport) :
    (r.identify rep).Lawful true := by
  have hcommand := h.command_none (by rw [hlinking]; decide)
  unfold PortRec.identify
  dsimp only
  split
  · rw [PortRec.lawful_iff]
    simp [PortRec.enter, PortRec.timerFits, PortRec.poweringUp, hcommand]
  · exact PortRec.lawful_fail (r := { r with identity := rep.identity, headphones := rep.headphones, timer := none })
      hcommand _ _

/-- The first Poll of a turn is sent from the record of a polled port (02 R44). -/
theorem PortRec.Lawful.polledOnce (h : r.Lawful sense) (hpolled : r.polled = true) : r.polledOnce.Lawful sense := by
  unfold PortRec.polledOnce
  split
  · exact h
  · next hkind =>
    have hactive : r.state = .active := by
      have hnot : r.state ≠ .linking := by
        intro hlinking
        simp [PortRec.turnKind, hlinking] at hkind
      simpa [PortRec.polled, hnot] using hpolled
    unfold PortRec.sent
    split
    · exact h
    · exact h.with_presentations hactive rfl rfl rfl rfl rfl

theorem PortRec.polledOnce_state (r : PortRec) : r.polledOnce.state = r.state := by
  unfold PortRec.polledOnce PortRec.sent
  repeat' split
  all_goals rfl

theorem PortRec.acknowledge_fields (r : PortRec) (version : Option Nat) :
    (r.acknowledge version).state = r.state ∧ (r.acknowledge version).switch = r.switch ∧
      (r.acknowledge version).cause = r.cause ∧ (r.acknowledge version).command = r.command ∧
      (r.acknowledge version).timer = r.timer := by
  unfold PortRec.acknowledge
  repeat' split
  all_goals exact ⟨rfl, rfl, rfl, rfl, rfl⟩

theorem PortRec.Lawful.takeReport (h : r.Lawful sense) (hactive : r.state = .active) (rep : UnitReport) :
    (r.takeReport rep).Lawful sense := by
  obtain ⟨hstate, hswitch, hcause, hcommand, htimer⟩ := PortRec.acknowledge_fields { r with misses := 0 } rep.version
  exact h.with_presentations hactive hstate hswitch hcause hcommand htimer

theorem PortRec.Lawful.miss (h : r.Lawful true) (hactive : r.state = .active) : r.miss.Lawful true := by
  unfold PortRec.miss
  dsimp only
  split
  · exact PortRec.lawful_fail (r := { r with misses := r.misses + 1 }) (h.command_none (by rw [hactive]; decide)) _ _
  · exact h.congr ⟨rfl, rfl, rfl, rfl, rfl, rfl, rfl, rfl⟩

/-- A desired presentation is written only while ACTIVE (02 R42). -/
theorem PortRec.Lawful.with_desired (h : r.Lawful sense) {d : Option Presentation} (hd : r.state ≠ .active → d = none) :
    ({ r with desired := d } : PortRec).Lawful sense where
  sense := h.sense
  switch := h.switch
  cause := h.cause
  timer := h.timer
  delivery := by
    by_cases hactive : r.state = .active
    · exact .inl hactive
    · exact .inr ⟨hd hactive, (h.delivery.resolve_left hactive).2⟩

end

/-! ### Ports and turns -/

/-- The laws of the ports, and of the turns in flight of some decks. -/
structure State.LinesLawful (s : State) (D : Deck → Prop) : Prop where
  ports : ∀ p : Port, s.ports[p].Lawful s.senses.presence[p]
  turns : ∀ d : Deck, D d → ∀ t ∈ (s.poller d).turn, s.TurnLawful d t

theorem State.portsLawful_iff_lines (s : State) : s.PortsLawful ↔ s.LinesLawful fun _ => True :=
  ⟨fun h => ⟨h.ports, fun d _ => h.turns d⟩, fun h => ⟨h.ports, fun d => h.turns d trivial⟩⟩

/-- `u` has the senses and turns in flight of `s`, and port records alike. -/
structure State.SamePorts (s u : State) : Prop where
  presence : u.senses.presence = s.senses.presence
  turns : ∀ d : Deck, (u.poller d).turn = (s.poller d).turn
  ports : ∀ p : Port, s.ports[p].Alike u.ports[p]

theorem State.SameLines.samePorts {s u : State} (h : s.SameLines u) : s.SamePorts u where
  presence := by rw [h.senses]
  turns d := by
    cases d with
    | lower => exact congrArg Poller.turn h.lower
    | upper => exact congrArg Poller.turn h.upper
  ports p := by
    obtain ⟨f, hf⟩ := h.ports p
    rw [hf]
    exact ⟨rfl, rfl, rfl, rfl, rfl, rfl, rfl, rfl⟩

theorem State.SamePorts.of_ports {s u : State} (hsenses : u.senses = s.senses) (hlower : u.lower = s.lower)
    (hupper : u.upper = s.upper) (hports : u.ports = s.ports) : s.SamePorts u where
  presence := by rw [hsenses]
  turns d := by
    cases d with
    | lower => exact congrArg Poller.turn hlower
    | upper => exact congrArg Poller.turn hupper
  ports p := by rw [hports]; exact ⟨rfl, rfl, rfl, rfl, rfl, rfl, rfl, rfl⟩

theorem State.mapPort_get (s : State) (p q : Port) (f : PortRec → PortRec) :
    (s.mapPort p f).ports[q] = if q = p then f s.ports[p] else s.ports[q] := Vector.set_get_eq s.ports p q _

theorem State.SamePorts.mapPort (s : State) {p : Port} {f : PortRec → PortRec} (hf : s.ports[p].Alike (f s.ports[p])) :
    s.SamePorts (s.mapPort p f) where
  presence := rfl
  turns _ := by cases ‹Deck› <;> rfl
  ports q := by
    rw [State.mapPort_get]
    split
    · next e => subst e; exact hf
    · exact ⟨rfl, rfl, rfl, rfl, rfl, rfl, rfl, rfl⟩

theorem State.LinesLawful.congr {s u : State} {D : Deck → Prop} (hs : s.LinesLawful D) (h : s.SamePorts u) :
    u.LinesLawful D where
  ports p := by rw [h.presence]; exact (hs.ports p).congr (h.ports p)
  turns d hd t ht := by
    rw [h.turns] at ht
    obtain ⟨hdeck, hlaw⟩ := hs.turns d hd t ht
    exact ⟨hdeck, by rw [(h.ports t.port).state]; exact hlaw⟩

/-- The state of the port a turn of each kind is sent in (10 R158). -/
def turnState : TurnKind → PortState
  | .identify => .linking
  | .normal => .active

theorem State.turnLawful_iff (s : State) (d : Deck) (t : Turn) :
    s.TurnLawful d t ↔ deckOf t.port = d ∧ (t.discarded = true ∨ s.ports[t.port].state = turnState t.kind) := by
  unfold State.TurnLawful
  cases t.kind <;> rfl

/-- A turn to a port that is not polled has been discarded. -/
theorem State.TurnLawful.discarded_of_not_polled {s : State} {d : Deck} {t : Turn} (h : s.TurnLawful d t)
    (hpolled : s.ports[t.port].polled = false) : t.discarded = true := by
  obtain ⟨-, hlaw⟩ := h
  refine hlaw.resolve_right fun hstate => ?_
  rw [PortRec.polled, hstate] at hpolled
  revert hpolled
  cases t.kind <;> decide

/-- The turn that is started to a polled port is of the kind for its state. -/
theorem PortRec.state_of_polled {r : PortRec} (hpolled : r.polled = true) : r.state = turnState r.turnKind := by
  rw [PortRec.polled, Bool.or_eq_true, decide_eq_true_eq, decide_eq_true_eq] at hpolled
  unfold PortRec.turnKind
  rcases hpolled with h | h <;> simp [h, turnState]

/-- A change at one port `p` and its presence sense keeps the laws if the record it leaves is lawful, and the turns in flight to
it are discarded, or were, or find the state they were sent for. -/
theorem State.LinesLawful.change {s u : State} {D : Deck → Prop} (hs : s.LinesLawful D) (p : Port)
    (hothers : ∀ q, q ≠ p → u.ports[q] = s.ports[q] ∧ u.senses.presence[q] = s.senses.presence[q])
    (hp : u.ports[p].Lawful u.senses.presence[p])
    (hturns : ∀ d, D d → ∀ t' ∈ (u.poller d).turn, ∃ t ∈ (s.poller d).turn, t'.port = t.port ∧ t'.kind = t.kind ∧
      (t.discarded = true → t'.discarded = true) ∧
      (t.port = p → t'.discarded = true ∨ u.ports[p].state = s.ports[p].state ∨ s.ports[p].polled = false)) :
    u.LinesLawful D where
  ports q := by
    by_cases e : q = p
    · subst e; exact hp
    · rw [(hothers q e).1, (hothers q e).2]; exact hs.ports q
  turns d hd t' ht' := by
    obtain ⟨t, ht, hport, hkind, hdisc, hat⟩ := hturns d hd t' ht'
    have hlaw := hs.turns d hd t ht
    have hstate := congrArg (fun q : Port => u.ports[q].state) hport
    obtain ⟨hdeck, hsent⟩ := (s.turnLawful_iff d t).1 hlaw
    rw [State.turnLawful_iff, hstate, hkind, hport]
    refine ⟨hdeck, ?_⟩
    by_cases e : t.port = p
    · subst e
      rcases hat rfl with h | h | h
      · exact .inl h
      · rw [h]; exact hsent.imp_left hdisc
      · exact .inl (hdisc (hlaw.discarded_of_not_polled h))
    · rw [(hothers _ e).1]
      exact hsent.imp_left hdisc

theorem State.LinesLawful.mapPort {s : State} {D : Deck → Prop} (hs : s.LinesLawful D) {p : Port} {f : PortRec → PortRec}
    (hf : (f s.ports[p]).Lawful s.senses.presence[p])
    (hstate : (f s.ports[p]).state = s.ports[p].state ∨ s.ports[p].polled = false ∨ ¬D (deckOf p)) :
    (s.mapPort p f).LinesLawful D := by
  refine hs.change p (fun q hq => ⟨by rw [State.mapPort_get, if_neg hq], rfl⟩) (by rw [State.mapPort_get, if_pos rfl]; exact hf)
    fun d hd t ht => ?_
  have ht' : t ∈ (s.poller d).turn := by cases d <;> exact ht
  refine ⟨t, ht', rfl, rfl, id, fun e => ?_⟩
  rw [State.mapPort_get, if_pos rfl]
  rcases hstate with h | h | h
  · exact .inr (.inl h)
  · exact .inr (.inr h)
  · refine absurd ?_ h
    rw [← e, (hs.turns d hd t ht').1]
    exact hd

/-- The turns a port leaves behind are discarded (10 R161). -/
theorem State.leaveLink_turn (s : State) (p : Port) (d : Deck) {t' : Turn} (ht' : t' ∈ ((s.leaveLink p).poller d).turn) :
    ∃ t ∈ (s.poller d).turn, t'.port = t.port ∧ t'.kind = t.kind ∧ (t.discarded = true → t'.discarded = true) ∧
      (t.port = p → deckOf p = d → t'.discarded = true) := by
  by_cases hd : deckOf p = d
  · have hturn : ((s.leaveLink p).poller d).turn =
        (s.poller d).turn.map fun t => if t.port = p then { t with discarded := true } else t := by
      unfold State.leaveLink
      rw [hd]
      cases d <;> rfl
    rw [hturn, Option.mem_def] at ht'
    obtain ⟨t, ht, rfl⟩ := Option.map_eq_some_iff.1 ht'
    refine ⟨t, ht, ?_⟩
    split
    · exact ⟨rfl, rfl, fun _ => rfl, fun _ _ => rfl⟩
    · next hne => exact ⟨rfl, rfl, id, fun e => absurd e hne⟩
  · have hpoller : (s.leaveLink p).poller d = s.poller d := by
      unfold State.leaveLink
      generalize deckOf p = e at hd
      cases d <;> cases e <;> first | rfl | exact absurd rfl hd
    rw [hpoller] at ht'
    exact ⟨t', ht', rfl, rfl, id, fun _ h => absurd h hd⟩

@[simp] theorem State.leaveLink_ports (s : State) (p : Port) : (s.leaveLink p).ports = s.ports := State.mapPoller_ports _ _ _

@[simp] theorem State.leaveLink_senses (s : State) (p : Port) : (s.leaveLink p).senses = s.senses :=
  State.mapPoller_senses _ _ _

/-- A port that leaves the link, with its presence sense at whatever level makes the new record lawful. -/
theorem State.LinesLawful.dropPort {s s' : State} {D : Deck → Prop} (hs : s.LinesLawful D) {p : Port}
    {f : PortRec → PortRec} (hports : s'.ports = s.ports) (hturns : ∀ d, s'.poller d = s.poller d)
    (hsense : ∀ q, q ≠ p → s'.senses.presence[q] = s.senses.presence[q])
    (hf : (f s.ports[p]).Lawful s'.senses.presence[p]) : (s'.dropPort p f).LinesLawful D := by
  have hget : ∀ q, (s'.dropPort p f).ports[q] = if q = p then f s.ports[p] else s.ports[q] := by
    intro q
    unfold State.dropPort
    rw [State.leaveLink_ports, State.mapPort_get, hports]
  have hsenses : (s'.dropPort p f).senses = s'.senses := State.leaveLink_senses _ _
  refine hs.change p (fun q hq => ⟨by rw [hget, if_neg hq], by rw [hsenses]; exact hsense q hq⟩)
    (by rw [hget, if_pos rfl, hsenses]; exact hf) fun d hd t' ht' => ?_
  obtain ⟨t, ht, hport, hkind, hdisc, hat⟩ := State.leaveLink_turn _ p d ht'
  have ht : t ∈ (s.poller d).turn := by
    rw [← hturns d]
    cases d <;> exact ht
  exact ⟨t, ht, hport, hkind, hdisc, fun e => .inl (hat e (e ▸ (hs.turns d hd t ht).1))⟩

/-! ### The recomputation and the turns -/

theorem State.resolve_of_not_active {s : State} {p : Port} (h : s.ports[p].state ≠ .active) : s.resolve p = none := if_neg h

theorem State.refresh_poller (s : State) (d : Deck) : s.refresh.poller d = s.poller d := by
  cases d
  · exact s.refresh_lower
  · exact s.refresh_upper

theorem State.LinesLawful.refresh {s : State} {D : Deck → Prop} (hs : s.LinesLawful D) : s.refresh.LinesLawful D where
  ports p := by
    rw [State.refresh_port, State.refresh_senses]
    exact (hs.ports p).with_desired fun h => State.resolve_of_not_active h
  turns d hd t ht := by
    rw [State.refresh_poller] at ht
    obtain ⟨hdeck, hlaw⟩ := hs.turns d hd t ht
    exact ⟨hdeck, by rw [State.refresh_port]; exact hlaw⟩

theorem State.LinesLawful.mono {s : State} {D D' : Deck → Prop} (hs : s.LinesLawful D) (h : ∀ d, D' d → D d) :
    s.LinesLawful D' := ⟨hs.ports, fun d hd => hs.turns d (h d hd)⟩

theorem deckOf_portOf (d : Deck) (k : Fin 20) : deckOf (portOf d k) = d := by
  cases d
  · simp [deckOf, portOf]
  · simp [deckOf, portOf]

/-- The port a poller chooses is polled (10 R151 to R155). -/
theorem Poller.choose_polled {s : State} {d : Deck} {pl pl' : Poller} {k : Fin 20} (h : pl.choose s d = some (k, pl')) :
    s.ports[portOf d k].polled = true := by
  have hpriority : ∀ k pl', pl.drawPriority s d = some (k, pl') → s.polledAt d k = true := by
    intro k pl' h
    obtain ⟨j, hj, e⟩ := Option.map_eq_some_iff.1 h
    cases e
    have := List.find?_some hj
    rw [Bool.and_eq_true] at this
    exact this.1
  have hordinary : ∀ k pl', pl.drawOrdinary s d = some (k, pl') → s.polledAt d k = true := by
    intro k pl' h
    obtain ⟨j, hj, e⟩ := Option.map_eq_some_iff.1 h
    cases e
    have := List.find?_some hj
    rw [Bool.and_eq_true] at this
    exact this.1
  unfold Poller.choose at h
  split at h
  · cases h
  · obtain ⟨j, hj, e⟩ := Option.map_eq_some_iff.1 h
    cases e
    exact List.find?_some (p := s.polledAt d) hj
  · split at h <;> rcases Option.or_eq_some_iff.1 h with h | ⟨-, h⟩
    · exact hpriority k pl' h
    · exact hordinary k pl' h
    · exact hordinary k pl' h
    · exact hpriority k pl' h
  · obtain ⟨j, hj, e⟩ := Option.map_eq_some_iff.1 h
    cases e
    have := List.find?_some hj
    rw [Bool.and_eq_true] at this
    exact this.2

theorem State.mapPoller_poller (s : State) (d d' : Deck) (f : Poller → Poller) :
    (s.mapPoller d f).poller d' = if d' = d then f (s.poller d') else s.poller d' := by
  cases d <;> cases d' <;> rfl

/-- A change of a poller that leaves no turn in flight there needs the law of the other deck's turn alone. -/
theorem State.LinesLawful.mapPoller {s : State} {D : Deck → Prop} {d : Deck} (hs : s.LinesLawful fun e => D e ∧ e ≠ d)
    {f : Poller → Poller} (hf : D d → ∀ t ∈ (f (s.poller d)).turn, s.TurnLawful d t) : (s.mapPoller d f).LinesLawful D where
  ports p := by rw [State.mapPoller_ports, State.mapPoller_senses]; exact hs.ports p
  turns e he t ht := by
    rw [State.mapPoller_poller] at ht
    unfold State.TurnLawful
    rw [State.mapPoller_ports]
    split at ht
    · next h => subst h; exact hf he t ht
    · next h => exact hs.turns e ⟨he, h⟩ t ht

theorem State.LinesLawful.startTurn {s : State} {D : Deck → Prop} (hs : s.LinesLawful D) (d : Deck) :
    (s.startTurn d).LinesLawful D := by
  unfold State.startTurn
  split
  · next k pl hchoose =>
    have hpolled := Poller.choose_polled hchoose
    have hport : (s.mapPort (portOf d k) PortRec.polledOnce).LinesLawful D :=
      hs.mapPort ((hs.ports _).polledOnce hpolled) (.inl (PortRec.polledOnce_state _))
    refine State.LinesLawful.mapPoller (hport.mono fun e h => h.1) fun _ t ht => ?_
    cases ht
    rw [State.turnLawful_iff]
    refine ⟨deckOf_portOf d k, .inr ?_⟩
    dsimp only
    rw [State.mapPort_get, if_pos rfl, PortRec.polledOnce_state]
    exact PortRec.state_of_polled hpolled
  · split
    · have hend : (s.mapPoller d Poller.endSweep).LinesLawful D :=
        State.LinesLawful.mapPoller (hs.mono fun e h => h.1) fun hd t ht => hs.turns d hd t ht
      exact hend.congr (State.SameLines.flagCoach _ _).samePorts
    · exact hs

theorem Poller.takeMode_turn (m : PollMode) (pl : Poller) : (pl.takeMode m).turn = pl.turn := by cases m <;> rfl

theorem Poller.endTurn_turn (pl : Poller) : pl.endTurn.turn = none := by
  unfold Poller.endTurn
  split
  · rfl
  · rw [Poller.takeMode_turn]

/-- The end of a turn starts the next one whatever has become of the turn that ends. -/
theorem State.LinesLawful.nextTurn {s : State} {D : Deck → Prop} {d : Deck} (hs : s.LinesLawful fun e => D e ∧ e ≠ d) :
    (s.nextTurn d).LinesLawful D := by
  refine State.LinesLawful.startTurn (State.LinesLawful.mapPoller hs.refresh fun _ t ht => ?_) d
  rw [Poller.endTurn_turn] at ht
  cases ht

theorem State.LinesLawful.setMode {s : State} {D : Deck → Prop} (hs : s.LinesLawful D) (m : PollMode) (d : Deck) :
    (s.setMode m d).LinesLawful D := by
  unfold State.setMode
  split
  · exact State.LinesLawful.mapPoller (hs.mono fun e h => h.1) fun hd t ht => hs.turns d hd t ht
  · refine State.LinesLawful.startTurn (State.LinesLawful.mapPoller (hs.mono fun e h => h.1) fun hd t ht => ?_) d
    rw [Poller.takeMode_turn] at ht
    exact hs.turns d hd t ht

theorem State.LinesLawful.wakePoller {s : State} {D : Deck → Prop} (hs : s.LinesLawful D) (d : Deck) :
    (s.wakePoller d).LinesLawful D := by
  unfold State.wakePoller
  dsimp only
  split
  · exact hs.startTurn d
  · exact hs

end Sys2Proof.Machine
end

section
/-! SUPPORT. What each effect leaves of the laws of the ports and the turns (spec/09, spec/10). -/

namespace Sys2Proof.Machine

open Sys2Proof

theorem State.SamePorts.trans {s t u : State} (h : s.SamePorts t) (k : t.SamePorts u) : s.SamePorts u where
  presence := k.presence.trans h.presence
  turns d := (k.turns d).trans (h.turns d)
  ports p := by
    have hst := h.ports p
    have htu := k.ports p
    exact ⟨htu.state.trans hst.state, htu.switch.trans hst.switch, htu.cause.trans hst.cause,
      htu.command.trans hst.command, htu.timer.trans hst.timer, htu.desired.trans hst.desired,
      htu.lastSent.trans hst.lastSent, htu.acked.trans hst.acked⟩

theorem State.SamePorts.refl (s : State) : s.SamePorts s := .of_ports rfl rfl rfl rfl

theorem State.samePorts_atDesk (s : State) (f : State → Desk → Desk) : s.SamePorts (s.atDesk f) := .of_ports rfl rfl rfl rfl

theorem State.samePorts_endPlayout (s : State) (f : FeedIx) (reach : Bool) : s.SamePorts (s.endPlayout f reach) := by
  unfold State.endPlayout
  split
  · exact .refl s
  · exact s.samePorts_atDesk _

theorem State.samePorts_mapFeed (s : State) (f : FeedIx) (g : Feed → Feed) : s.SamePorts (s.mapFeed f g) :=
  .of_ports rfl rfl rfl rfl

theorem State.DeskEffect.samePorts {s u : State} (h : s.DeskEffect u) : s.SamePorts u := by
  cases h with
  | announce | endAnnounce | cancelAnnounce | leadInEnd | durationExpiry | gapExpiry => exact s.samePorts_atDesk _
  | releaseAnnounce => exact .of_ports rfl rfl rfl rfl
  | configureFeed => exact s.samePorts_mapFeed _ _
  | unconfigureFeed f => exact (s.samePorts_mapFeed f _).trans (State.samePorts_endPlayout _ f _)
  | stall f =>
    exact ((s.samePorts_mapFeed f _).trans (State.SameLines.flagCoach _ _).samePorts).trans (State.samePorts_endPlayout _ f _)
  | dataTaken g =>
    unfold State.dataTaken
    dsimp only
    split <;> exact .of_ports rfl rfl rfl rfl
  | endTaken g =>
    unfold State.endTaken
    split
    · exact (s.samePorts_mapFeed _ _).trans (State.samePorts_endPlayout _ _ _)
    · exact .refl s

theorem State.samePorts_tripReset (s : State) : s.SamePorts s.tripReset where
  presence := by rw [State.tripReset, State.copyIfIdle_senses]
  turns d := by
    cases d
    · exact congrArg Poller.turn (State.copyIfIdle_lower _)
    · exact congrArg Poller.turn (State.copyIfIdle_upper _)
  ports p := by
    have hports : s.tripReset.ports[p] = s.ports[p].tripped := by
      simp only [State.tripReset, State.copyIfIdle_ports, Fin.getElem_fin, Vector.getElem_map]
    rw [hports]
    exact ⟨rfl, rfl, rfl, rfl, rfl, rfl, rfl, rfl⟩

theorem State.samePorts_retireBerth (s : State) (p : Port) : s.SamePorts (s.retireBerth p) :=
  (((State.SameLines.putSlots s _).samePorts.trans (State.samePorts_atDesk _ _)).trans
    (State.SameLines.dropCall _ _).samePorts).trans (State.SameLines.copyIfIdle _).samePorts

theorem State.samePorts_alertEntry (s : State) (level : Level) : s.SamePorts (s.alertLevel level).alertEntry := by
  have hlevel : s.SamePorts (s.alertLevel level) := .of_ports rfl rfl rfl rfl
  have hclaims : (s.alertLevel level).SameLines (s.alertLevel level).alertClaims :=
    ((State.SameLines.alertTo _ _).trans (.flagCoach _ _)).trans (.mapBerths _ _)
  rw [State.alertEntry_eq]
  exact (hlevel.trans hclaims.samePorts).trans (State.samePorts_atDesk _ _)

/-! ### The senses read after a reset -/

/-- Ports taken one after another as presence rises: those still to be read are EMPTY (09 R149). -/
theorem State.readSenses_lawful (pins : Vector Bool 40) (l : List Port) : l.Nodup → ∀ t : State,
    (∀ p : Port, t.ports[p].Lawful (if p ∈ l then false else pins[p])) →
      ∀ p : Port, (l.foldl (fun t p => if pins[p] then t.rise p else t) t).ports[p].Lawful pins[p] := by
  induction l with
  | nil => intro _ t ht p; simpa using ht p
  | cons q l ih =>
    intro hnodup t ht
    obtain ⟨hq, hl⟩ := List.nodup_cons.1 hnodup
    refine ih hl _ fun p => ?_
    have hp := ht p
    dsimp only
    by_cases e : p = q
    · subst e
      rw [if_pos List.mem_cons_self] at hp
      rw [if_neg hq]
      by_cases hhigh : pins[p] = true
      · simp only [hhigh, if_true]
        rw [State.rise, State.mapPort_get, if_pos rfl]
        exact PortRec.lawful_rise hp _ _
      · rw [Bool.not_eq_true] at hhigh
        simp only [hhigh, Bool.false_eq_true, if_false]
        exact hp
    · have hmem : (p ∈ q :: l) ↔ p ∈ l := by simp [e]
      simp only [hmem] at hp
      by_cases hhigh : pins[q] = true
      · rw [if_pos hhigh, State.rise, State.mapPort_get, if_neg e]
        exact hp
      · rw [if_neg hhigh]
        exact hp

theorem State.readSenses_lines (s : State) : s.readSenses.senses = s.senses ∧ ∀ d, s.readSenses.poller d = s.poller d := by
  unfold State.readSenses
  suffices h : ∀ (l : List Port) (t : State), (t.senses = s.senses ∧ ∀ d, t.poller d = s.poller d) →
      ((l.foldl (fun t p => if s.senses.presence[p] then t.rise p else t) t).senses = s.senses ∧
        ∀ d, (l.foldl (fun t p => if s.senses.presence[p] then t.rise p else t) t).poller d = s.poller d) from
    h _ s ⟨rfl, fun _ => rfl⟩
  intro l
  induction l with
  | nil => exact fun _ h => h
  | cons p l ih =>
    intro t h
    refine ih _ ?_
    dsimp only
    split
    · exact ⟨h.1, fun d => by rw [← h.2 d]; cases d <;> rfl⟩
    · exact h

theorem State.linesLawful_reset (s : State) (pins : Pins) (D : Deck → Prop) :
    State.LinesLawful { State.blank pins with pending := s.pending, free := s.free }.readSenses D := by
  obtain ⟨hsenses, hpollers⟩ := State.readSenses_lines { State.blank pins with pending := s.pending, free := s.free }
  refine ⟨fun p => ?_, fun d _ t ht => ?_⟩
  · rw [hsenses]
    refine State.readSenses_lawful _ allPorts (List.nodup_finRange 40) _ (fun q => ?_) p
    rw [if_pos (show q ∈ allPorts from List.mem_finRange q)]
    simpa [State.blank] using PortRec.atReset_lawful q
  · rw [hpollers] at ht
    cases d <;> cases ht

/-! ### The commands at the ports -/

/-- The presence sense of a port that is written. -/
theorem State.sensePresence_get (s : State) (p q : Port) (high : Bool) :
    (s.sensePresence p high).senses.presence[q] = if q = p then high else s.senses.presence[q] :=
  Vector.set_get_eq s.senses.presence p q high

theorem State.sensePresence_poller (s : State) (p : Port) (high : Bool) (d : Deck) :
    (s.sensePresence p high).poller d = s.poller d := by cases d <;> rfl

section

variable {s u : State} {D : Deck → Prop} (hs : s.LinesLawful D)
include hs

theorem State.LinesLawful.dropPort_same {p : Port} {f : PortRec → PortRec}
    (hf : (f s.ports[p]).Lawful s.senses.presence[p]) : (s.dropPort p f).LinesLawful D :=
  State.LinesLawful.dropPort hs rfl (fun _ => rfl) (fun _ _ => rfl) hf

theorem State.LinesLawful.portPower (q : PowerParams) (hidle : s.ports[q.port].command = none)
    (hplugged : s.ports[q.port].state ≠ .empty) : (s.portPower q).LinesLawful D := by
  have hsense := (hs.ports q.port).sense_high hplugged
  unfold State.portPower
  dsimp only
  split <;> split
  · exact hs.mapPort ((hs.ports q.port).doneAtOnce hidle _) (.inl rfl)
  · next hoff =>
    refine hs.mapPort ?_ (.inr (.inl (by simpa using hoff)))
    rw [hsense]
    exact PortRec.lawful_powerOn _ _
  · refine hs.dropPort_same ?_
    rw [hsense]
    exact PortRec.lawful_powerOff
  · exact hs.mapPort ((hs.ports q.port).doneAtOnce hidle _) (.inl rfl)

theorem State.LinesLawful.presenceRise {p : Port} (hlow : s.senses.presence[p] = false) :
    ((s.sensePresence p true).rise p).LinesLawful D := by
  have hp := hs.ports p
  rw [hlow] at hp
  have hempty : s.ports[p].state = .empty := hp.sense.2 rfl
  refine hs.change p (fun q hq => ⟨?_, ?_⟩) ?_ fun d hd t ht => ?_
  · rw [State.rise, State.mapPort_get, if_neg hq]; rfl
  · exact (State.sensePresence_get s p q true).trans (if_neg hq)
  · rw [State.rise, State.mapPort_get, if_pos rfl, State.mapPort_senses, State.sensePresence_get, if_pos rfl]
    exact PortRec.lawful_rise hp _ _
  · have ht' : t ∈ (s.poller d).turn := by cases d <;> exact ht
    refine ⟨t, ht', rfl, rfl, id, fun _ => .inr (.inr ?_)⟩
    rw [PortRec.polled, hempty]
    rfl

theorem State.LinesLawful.of_line (h : s.LineEffect u) : u.LinesLawful D := by
  cases h with
  | portPower q hidle hplugged => exact hs.portPower q hidle hplugged
  | portConfig q => exact hs.congr (.mapPort s ⟨rfl, rfl, rfl, rfl, rfl, rfl, rfl, rfl⟩)
  | ackBerthEvents q => exact hs.congr (.mapPort s ⟨rfl, rfl, rfl, rfl, rfl, rfl, rfl, rfl⟩)
  | setPollMode q =>
    suffices h : ∀ (l : List Deck) (t : State), t.LinesLawful D →
        (l.foldl (fun t d => t.setMode q.mode d) t).LinesLawful D from h _ s hs
    intro l
    induction l with
    | nil => exact fun _ h => h
    | cons d l ih => exact fun t h => ih _ (h.setMode q.mode d)
  | presenceRise p hlow => exact hs.presenceRise hlow
  | presenceFall p hhigh =>
    refine State.LinesLawful.dropPort hs rfl (s.sensePresence_poller p false)
      (fun q hq => (s.sensePresence_get p q false).trans (if_neg hq)) ?_
    rw [State.sensePresence_get, if_pos rfl]
    exact PortRec.lawful_fall
  | powerFault p hpowered =>
    refine State.LinesLawful.dropPort hs rfl (fun d => by cases d <;> rfl) (fun _ _ => rfl) ?_
    have hsense := (hs.ports p).sense_high ((hs.ports p).plugged_of_powered hpowered)
    show (s.ports[p].powerFailed).Lawful s.senses.presence[p]
    rw [hsense]
    exact PortRec.lawful_powerFailed
  | powerGood p hpowering =>
    have hstate : s.ports[p].state = .powering := by
      simp only [PortRec.poweringUp, Bool.and_eq_true, decide_eq_true_eq] at hpowering
      exact hpowering.1
    have hsense := (hs.ports p).sense_high (by rw [hstate]; decide)
    refine (State.LinesLawful.mapPort hs ?_ (.inr (.inl ?_))).refresh.wakePoller _
    · rw [hsense]; exact PortRec.lawful_linkUp _
    · rw [PortRec.polled, hstate]; rfl
  | powerGoodExpiry p htimer =>
    have hsense := (hs.ports p).sense_high (by rw [(hs.ports p).state_of_timer.1 htimer]; decide)
    refine hs.dropPort_same ?_
    rw [hsense]; exact PortRec.lawful_powerFailed
  | dischargeEnd p htimer =>
    have hsense := (hs.ports p).sense_high (by rw [(hs.ports p).state_of_timer.2.1 htimer]; decide)
    refine hs.dropPort_same ?_
    rw [hsense]; exact PortRec.lawful_discharged
  | linkExpiry p htimer =>
    have hlinking := (hs.ports p).state_of_timer.2.2 htimer
    have hsense := (hs.ports p).sense_high (by rw [hlinking]; decide)
    refine hs.dropPort_same ?_
    rw [hsense]; exact PortRec.lawful_fail ((hs.ports p).command_none (by rw [hlinking]; decide)) _ _

end

/-! ### The end of a turn -/

theorem State.sameLines_presses (p : Port) (n : Nat) : ∀ s : State, s.SameLines (s.presses p n) := by
  induction n with
  | zero => exact .refl
  | succ n ih =>
    intro s
    unfold State.presses
    split
    · exact .refl s
    · split
      · exact .answerCall s p
      · refine State.SameLines.trans ?_ (ih _)
        unfold State.press
        split
        · exact ((State.SameLines.mapBerth s p _).trans (.dropCall _ _)).trans (.flagBerth _ _ _)
        · split <;> exact .mapBerth s p _

theorem State.sameLines_passengers (s : State) (p : Port) (l : List (Byte × Byte)) : s.SameLines (s.passengers p l).2 :=
  State.passengers_induction (I := s.SameLines) p (fun u code value h => h.trans (.passenger u p code value)) l s (.refl s)

theorem State.samePorts_takeRequests (s : State) (p : Port) (rep : UnitReport) : s.SamePorts (s.takeRequests p rep) := by
  unfold State.takeRequests
  dsimp only
  split
  · exact .refl s
  · exact (s.sameLines_passengers p _).samePorts.trans (.mapPort _ ⟨rfl, rfl, rfl, rfl, rfl, rfl, rfl, rfl⟩)

/-- What the end of a turn does is done to the turn's port, and to no turn in flight on the other deck. -/
theorem State.LinesLawful.turnResult {s : State} (hs : s.LinesLawful fun _ => True) {d : Deck} {t : Turn}
    (hturn : (s.poller d).turn = some t) (report : Option UnitReport) :
    (s.turnResult t report).LinesLawful fun e => True ∧ e ≠ d := by
  obtain ⟨hdeck, hsent⟩ := (s.turnLawful_iff d t).1 (hs.turns d trivial t hturn)
  have hother : s.LinesLawful fun e => True ∧ e ≠ d := hs.mono fun _ _ => trivial
  have hport : ∀ f : PortRec → PortRec, (f s.ports[t.port]).Lawful s.senses.presence[t.port] →
      (s.mapPort t.port f).LinesLawful fun e => True ∧ e ≠ d := fun f hf =>
    hother.mapPort hf (.inr (.inr fun h => h.2 hdeck))
  have hp := hs.ports t.port
  unfold State.turnResult
  split
  · exact hother
  · next hlive =>
    have hstate := hsent.resolve_left hlive
    have hsense : s.senses.presence[t.port] = true := hp.sense_high (by rw [hstate]; cases t.kind <;> decide)
    split
    · next rep =>
      unfold State.takeGood
      split
      · next hkind =>
        rw [hkind] at hstate
        refine hport _ ?_
        rw [hsense] at hp ⊢
        exact PortRec.lawful_identify hp hstate rep
      · next hkind =>
        rw [hkind] at hstate
        unfold State.takeReport
        split
        · refine hport _ ?_
          rw [hsense]
          exact PortRec.lawful_fail (r := { s.ports[t.port] with misses := 0 })
            (hp.command_none (by rw [hstate]; decide)) _ _
        · refine State.LinesLawful.congr ?_ (State.samePorts_takeRequests _ _ _)
          exact (hport _ (hp.takeReport hstate rep)).congr (State.sameLines_presses _ _ _).samePorts
    · unfold State.missTurn
      split
      · exact hother
      · next hkind =>
        rw [hkind] at hstate
        refine hport _ ?_
        rw [hsense] at hp ⊢
        exact hp.miss hstate

/-! ### Every step -/

theorem State.linesLawful_kept :
    ∀ s t : State, s.LinesLawful (fun _ => True) → step s = .next t → t.LinesLawful fun _ => True := by
  refine State.kept_of_effects (I := fun s => s.LinesLawful fun _ => True) (fun s t h hs => ?_) (fun s u h hs => ?_)
    fun u hu => hu.refresh.congr (.of_ports rfl rfl rfl rfl)
  · refine hs.congr (h.elim (motive := s.SamePorts) fun _ _ _ _ _ _ _ => ?_)
    exact ⟨rfl, fun d => by cases d <;> rfl, fun _ => ⟨rfl, rfl, rfl, rfl, rfl, rfl, rfl, rfl⟩⟩
  · cases h with
    | reset pins => exact s.linesLawful_reset pins _
    | tripReset => exact hs.congr s.samePorts_tripReset
    | retireBerth p => exact hs.congr (s.samePorts_retireBerth p)
    | alertEntry level => exact hs.congr (s.samePorts_alertEntry level)
    | turn d t report hturn => exact (hs.turnResult hturn report).nextTurn
    | table h => exact hs.congr h.sameLines.samePorts
    | desk h => exact hs.congr h.samePorts
    | line h => exact hs.of_line h
    | register h => exact hs.congr h.sameLines.samePorts

end Sys2Proof.Machine
end

section
/-! PROOF. The laws of the ports and the turns in flight (spec/09, spec/10). -/

namespace Sys2Proof.Proofs

open Sys2Proof Sys2Proof.Machine

/-- Settles O12: every move of a port leaves a lawful record, and one that leaves the link discards the turn in flight to it;
the turn whose end makes the move is the one that ends. -/
theorem portsLawfulKept : Obligations.PortsLawfulKept := fun s t hs hstep =>
  t.portsLawful_iff_lines.2 (State.linesLawful_kept s t (s.portsLawful_iff_lines.1 hs) hstep)

end Sys2Proof.Proofs
end

section
/-! SUPPORT. Requests: every request ends with a response of its code (spec/12 R170 to R172), and a request that fits its frame
is read back from it (13 R181). -/

namespace Sys2Proof.Machine

open Sys2Proof

/-- A request of this code is answered: the next state holds a response with the code, and a status other than OK says that
nothing else has changed. -/
def State.Responds (s : State) (code : Byte) (o : Answer) : Prop :=
  ∃ (t : State) (r : Reply), o = .next t ∧ t.reply = some r ∧ r.code = code ∧
    (r.status ≠ .ok → t = { s with reply := some r })

section

variable (s : State) (code : Byte) (data : State → List (List Byte))

@[simp] theorem State.Responds.refuse (st : Status) : s.Responds code (refuse code st s) := ⟨_, _, rfl, rfl, rfl, fun _ => rfl⟩

@[simp] theorem State.Responds.stale (st : Status) (d : List (List Byte)) : s.Responds code (.next (s.respond code st d)) :=
  ⟨_, _, rfl, rfl, rfl, fun _ => rfl⟩

@[simp] theorem State.Responds.accept (u : State) : s.Responds code (accept code data u) :=
  ⟨_, _, rfl, rfl, rfl, fun h => absurd rfl h⟩

@[simp] theorem State.Responds.answer (u : State) : s.Responds code (answer code data u) :=
  ⟨_, _, rfl, rfl, rfl, fun h => absurd rfl h⟩

theorem State.routeRequest_responds (items : List Item) : s.Responds 0x40#8 (s.routeRequest items) := by
  unfold State.routeRequest
  split
  · exact .refuse s _ _
  · exact .accept s _ _ _

end

/-- Each arm of a request's meaning refuses, answers or is taken, and each of these is a response (12 R170). -/
theorem exec_responds {c : Instr} {code : Byte} {items : List Item} (s : State)
    (hparts : requestParts c = some (code, items)) (hcode : code ≠ 0x90#8) : s.Responds code (exec c s) := by
  cases c with
  | partReset items => cases hparts; exact absurd rfl hcode
  | routeProgressApproach items | routeProgressArrive items | routeProgressDepart items =>
    cases hparts; exact s.routeRequest_responds items
  | _ =>
    cases hparts <;>
    dsimp only [exec, execOpenBerth, execAmendBerth, execRetireBerth, execLookupBerth, execFindOccupant, execListOccupied,
      execAnnounce, execEndAnnounce, execCancelAnnounce, execReleaseAnnounce, execLookupAnnounce, execListAnnounce,
      execSetPolicy, execReadPolicy, execSetQuiet, execLightsOut, execSetWakeProfile, execReadWakeProfile, execWakeCancel,
      execSetButtonWindow, execCallNext, execCallList, execCallAttend, execCallClose, execAlertRaise, execAlertClear,
      execResume, execSetAlertConfig, execReadAlert, execPortPower, execPortConfig, execPortQuery, execSetPortTiming,
      execSetPollMode, execSetPollTimeout, execReadPoll, execConfigureFeed, execUnconfigureFeed, execFeedQuery,
      execSetFeedStall, execTripReset, execSetEventEnables, execReadSummary, execReadBerthEvents, execAckBerthEvents,
      execAckCoachEvents, execSetDigest, execReadDigest] <;>
    repeat' split
    all_goals simp only [State.Responds.refuse, State.Responds.accept, State.Responds.answer, State.Responds.stale]

/-! ### Request frames -/

/-- Items of at most 255 value bytes are read back from their bytes. -/
theorem readItems_itemBytes (items : List Item) : ∀ fuel, (itemBytes items).length ≤ fuel →
    items.all (fun i => decide (i.value.length ≤ 255)) = true → readItems fuel (itemBytes items) = some items := by
  induction items with
  | nil => intro fuel _ _; unfold readItems; rfl
  | cons i rest ih =>
    intro fuel hfuel hsizes
    obtain ⟨hi, hrest⟩ := (List.all_cons ..).symm.trans hsizes |> (Bool.and_eq_true ..).mp
    have hsize : (BitVec.ofNat 8 i.value.length).toNat = i.value.length := by
      rw [BitVec.toNat_ofNat]
      exact Nat.mod_eq_of_lt (by have := of_decide_eq_true hi; omega)
    have hbytes : itemBytes (i :: rest) = i.id :: BitVec.ofNat 8 i.value.length :: (i.value ++ itemBytes rest) := rfl
    rw [hbytes] at hfuel ⊢
    obtain ⟨k, rfl⟩ : ∃ k, fuel = k + 1 := ⟨fuel - 1, by simp at hfuel; omega⟩
    have hk : (itemBytes rest).length ≤ k := by simp at hfuel; omega
    rw [readItems, hsize, if_pos (by simp), List.drop_left, List.take_left, ih k hk hrest]
    rfl

/-- The frame R181 lays out for a code and items that fit reads as that code and those items. -/
theorem readRequest_requestFrame {items : List Item} (hfit : itemsFit items = true) (code : Byte) :
    readRequest (requestFrame code items) = some (code, items) := by
  obtain ⟨hsizes, hlength⟩ := (Bool.and_eq_true ..).mp hfit
  have hlength := of_decide_eq_true hlength
  have hlen : (BitVec.ofNat 8 ((itemBytes items).length + 3)).toNat = (itemBytes items).length + 3 := by
    rw [BitVec.toNat_ofNat]; exact Nat.mod_eq_of_lt (by omega)
  unfold requestFrame readRequest
  dsimp only
  rw [if_pos ⟨by omega, hlen, rfl⟩, readItems_itemBytes items _ (Nat.le_refl _) hsizes]
  rfl

theorem itemsFit_of_wf {c : Instr} {code : Byte} {items : List Item} (hparts : requestParts c = some (code, items))
    (hwf : c.wf = true) : itemsFit items = true := by
  cases c with
  | routeProgressApproach items | routeProgressArrive items | routeProgressDepart items =>
    cases hparts; exact ((Bool.and_eq_true ..).mp hwf).1
  | _ => cases hparts <;> exact hwf

/-- The code and items of every request name it (13 R181). -/
theorem requestOfCode_requestParts (c : Instr) : Laws.CarriedBy.Statement c := by
  cases c with
  | routeProgressApproach items => exact Laws.CarriedBy.routeProgressApproach items
  | routeProgressArrive items => exact Laws.CarriedBy.routeProgressArrive items
  | routeProgressDepart items => exact Laws.CarriedBy.routeProgressDepart items
  | _ => intro _ _ _ hparts; cases hparts <;> rfl

/-- No request has the read code (12 R170). -/
theorem requestParts_code {c : Instr} {code : Byte} {items : List Item} (hparts : requestParts c = some (code, items)) :
    code ≠ 0#8 := by
  cases c <;> cases hparts <;> decide

theorem commandOfTransfer_of_request {code : Byte} {rest : List Byte} {c : Instr} (hcode : code ≠ 0#8)
    (hframe : requestOfFrame (code :: rest) = some c) : commandOfTransfer (code :: rest) = c := by
  unfold commandOfTransfer
  split
  · next h => cases h; exact absurd rfl hcode
  · rw [hframe]

end Sys2Proof.Machine
end

section
/-! PROOF. Requests and their frames (spec/12 R170; 13 R181). -/

namespace Sys2Proof.Proofs

open Sys2Proof Sys2Proof.Machine

/-- Settles O4: every arm of a request's meaning ends with a response of its code. -/
theorem requestsAreAnswered : Obligations.RequestsAreAnswered := fun _ _ _ s hparts hcode => exec_responds s hparts hcode

/-- Settles O14: the items are read back from the frame, and the code and items name the request. -/
theorem requestFrameRoundTrip : Obligations.RequestFrameRoundTrip := by
  intro c code items hparts hwf
  have hframe : requestOfFrame (requestFrame code items) = some c := by
    rw [requestOfFrame, readRequest_requestFrame (itemsFit_of_wf hparts hwf), Option.bind_some]
    exact requestOfCode_requestParts c hwf code items hparts
  exact ⟨hframe, commandOfTransfer_of_request (requestParts_code hparts) hframe⟩

end Sys2Proof.Proofs
end

section
/-! SUPPORT. The requests of the Berth Table (spec/01 R8 to R19): what each answers, and what it makes of the table. -/

namespace Sys2Proof.Machine

open Sys2Proof

section

variable {s : State} {p : Port} {b : Berth}

theorem State.isOpen_of_slot (h : s.slots[p] = some b) : s.isOpen p = true := by unfold State.isOpen; rw [h]; rfl

theorem State.isOpen_of_vacant (h : s.slots[p] = none) : s.isOpen p = false := by unfold State.isOpen; rw [h]; rfl

theorem State.image_of_slot (h : s.slots[p] = some b) : s.image p = some b.image := by unfold State.image; rw [h]; rfl

theorem State.image_of_vacant (h : s.slots[p] = none) : s.image p = none := by unfold State.image; rw [h]; rfl

/-- A walk starts on the record of a slot that is opened or vacated (01 R5). -/
theorem State.putSlots_set {o : Option Berth} (h : o.map Berth.image ≠ s.slots[p].map Berth.image) :
    s.putSlots (s.slots.set p.val o) = { s with
      slots := s.slots.set p.val o, digest := { s.digest with walk := some ⟨s.digest.poly, s.digest.order⟩ } } :=
  State.putSlots_changed p (by rw [Vector.set_get_eq, if_pos rfl]; exact h)

theorem State.openBerth_eq {q : OpenParams} (hvacant : s.slots[q.port] = none) :
    s.openBerth q = { s with
      slots := s.slots.set q.port.val (some (q.berth s.alert.state s.policy.load))
      digest := { s.digest with walk := some ⟨s.digest.poly, s.digest.order⟩ } } :=
  State.putSlots_set (by rw [hvacant]; exact fun h => by cases h)

end

/-! ### AMEND_BERTH -/

/-- The record after a change set: one field each, and the wake status derived if the stop or the lead is named (01 R12). -/
theorem Changes.apply_eq (c : Changes) (i : Image) : c.apply i =
    { i with
      program := c.program.getD i.program
      language := c.language.getD i.language
      volume := c.volume.getD i.volume
      ceiling := c.ceiling.getD i.ceiling
      locked := c.locked.getD i.locked
      lamp := c.lamp.getD i.lamp
      stop := c.stop.getD i.stop
      lead := c.lead.getD i.lead
      wake := if c.namesWake then (if (c.stop.getD i.stop).isSome && (c.lead.getD i.lead).isSome then .armed else .none)
        else i.wake } := by
  unfold Changes.apply
  dsimp only
  split <;> rfl

theorem Changes.apply_generation (c : Changes) (i : Image) : (c.apply i).generation = i.generation := by
  rw [Changes.apply_eq]

/-- The generation step of a claim whose change leaves the generation alone. -/
theorem Image.advance_eq {old new : Image} (h : new.generation = old.generation) :
    old.advance new = if new = old then old else { new with generation := old.generation + 1 } := by
  have hkept : ({ new with generation := old.generation } : Image) = new := by rw [← h]
  unfold Image.advance
  rw [hkept]

/-- A change set moves neither the berth state nor idle, so the timer of a lawful berth stays. -/
theorem Berth.claim_amend {m : QuietMode} {al : AlertState} {b : Berth} (hb : b.Lawful m al) (load : Reload) (c : Changes) :
    b.claim al load false c.apply = { b with
      image := if c.apply b.image = b.image then b.image
        else { c.apply b.image with generation := b.image.generation + 1 } } := by
  obtain ⟨-, hstate, hidle⟩ := c.apply_fields b.image
  have hruns : (c.apply b.image).runs al = b.image.runs al := by unfold Image.runs; rw [hstate, hidle]
  have htimer := hb.nextTimer_same load
  unfold Berth.claim
  dsimp only
  rw [Image.advance_runs, hruns, htimer, Image.advance_eq (c.apply_generation _)]

theorem State.amendBerth_eq {s : State} {q : AmendParams} {b : Berth} (hlawful : s.BerthsLawful)
    (hslot : s.slots[q.port] = some b) :
    s.amendBerth q = s.putSlots (s.slots.set q.port.val (some { b with
      image := if q.changes.apply b.image = b.image then b.image
        else { q.changes.apply b.image with generation := b.image.generation + 1 } })) := by
  rw [State.amendBerth, State.claim, State.mapBerth_of_some hslot, Berth.claim_amend (hlawful q.port b hslot)]

theorem expected_any_ne {o : Option (BitVec 8)} {g : BitVec 8} :
    o.any (· != g) = true ↔ ∃ x ∈ o, x ≠ g := by
  cases o <;> simp

/-! ### RETIRE_BERTH -/

/-- The state of a retire before the Roster is told: the slot VACANT and a walk started, the call removed, and a waiting
profile copied if this was the last ramp (01 R16, 06 R102). -/
def State.vacated (s : State) (p : Port) : State :=
  ((s.putSlots (s.slots.set p.val none)).dropCall p).copyIfIdle

/-- The retire in the Roster of a state changes nothing that a waiting copy or a call reads. -/
theorem State.retireBerth_eq (s : State) (p : Port) :
    s.retireBerth p = (s.vacated p).atDesk fun _ => Desk.retire (s.putSlots (s.slots.set p.val none)) p := by
  have hdrop : ∀ (u : State) (f : State → Desk → Desk),
      (u.atDesk f).dropCall p = (u.dropCall p).atDesk fun _ => f u := fun _ _ => rfl
  have hcopy : ∀ (u : State) (g : Desk → Desk), (u.atDesk fun _ => g).copyIfIdle = u.copyIfIdle.atDesk fun _ => g := by
    intro u g
    have hramp : (u.atDesk fun _ => g).anyRamp = u.anyRamp := State.anyRamp_congr (u.atDesk_slots _)
    unfold State.copyIfIdle
    rw [hramp, State.atDesk_wake]
    split <;> rfl
  unfold State.retireBerth State.vacated
  rw [hdrop, hcopy]

/-- The wake profiles once a port has left the table. -/
theorem State.vacated_wake (s : State) (p : Port) : (s.vacated p).wake =
    if s.wake.waiting = true ∧ ∀ q : Port, q ≠ p → ∀ c ∈ s.slots[q], c.ramp = none then
      { active := s.wake.pending, pending := s.wake.pending, waiting := false }
    else s.wake := by
  have hslots : ∀ q : Port, ((s.putSlots (s.slots.set p.val none)).dropCall p).slots[q] =
      if q = p then none else s.slots[q] := fun q => Vector.set_get_eq s.slots p q none
  have hramp : ((s.putSlots (s.slots.set p.val none)).dropCall p).anyRamp = false ↔
      ∀ q : Port, q ≠ p → ∀ c ∈ s.slots[q], c.ramp = none := by
    rw [← Bool.not_eq_true, State.anyRamp_iff]
    constructor
    · intro h q hq c hc
      by_contra hsome
      exact h ⟨q, c, by rw [hslots, if_neg hq]; exact hc, by simpa [Option.isSome_iff_ne_none] using hsome⟩
    · rintro h ⟨q, c, hc, hsome⟩
      rw [hslots] at hc
      split at hc
      · cases hc
      · next hq => rw [h q hq c hc] at hsome; cases hsome
  unfold State.vacated State.copyIfIdle
  rw [State.dropCall_wake, State.putSlots_wake, apply_ite State.wake]
  refine if_congr ?_ rfl rfl
  rw [Bool.and_eq_true, Bool.not_eq_true', hramp]

theorem State.vacated_eq {s : State} {p : Port} {b : Berth} (hslot : s.slots[p] = some b) :
    s.vacated p = { s with
      slots := s.slots.set p.val none
      digest := { s.digest with walk := some ⟨s.digest.poly, s.digest.order⟩ }
      calls := s.calls.filter fun c => c.port != p
      wake := if s.wake.waiting = true ∧ ∀ q : Port, q ≠ p → ∀ c ∈ s.slots[q], c.ramp = none then
          { active := s.wake.pending, pending := s.wake.pending, waiting := false }
        else s.wake } := by
  rw [← State.vacated_wake]
  have hput := State.putSlots_set (s := s) (p := p) (o := none) (by rw [hslot]; exact fun h => by cases h)
  have hcopy : ∀ u : State, u.copyIfIdle = { u with wake := u.copyIfIdle.wake } := by
    intro u
    unfold State.copyIfIdle
    split <;> rfl
  have hv : s.vacated p = { (s.putSlots (s.slots.set p.val none)).dropCall p with wake := (s.vacated p).wake } := hcopy _
  rw [hput] at hv
  exact hv

/-- What the retire of a port does not touch in any record, and where the port is after it (01 R16). -/
theorem Ann.afterRetire_fields (p : Port) (a : Ann) :
    (a.afterRetire p).withdrawn = a.withdrawn + (if p ∈ a.owed then 1 else 0) ∧ (a.afterRetire p).tag = a.tag ∧
      (a.afterRetire p).number = a.number ∧ (a.afterRetire p).admitted = a.admitted := by
  unfold Ann.afterRetire
  dsimp only
  split
  · exact ⟨rfl, rfl, rfl, rfl⟩
  · split
    · unfold Ann.afterPlayout
      dsimp only
      split
      · exact ⟨rfl, rfl, rfl, rfl⟩
      · split <;> exact ⟨rfl, rfl, rfl, rfl⟩
    · exact ⟨rfl, rfl, rfl, rfl⟩

/-- A record that is kept has the members it had, or fewer. -/
theorem Ann.Kept.not_owed {a b : Ann} (h : a.Kept b) {p : Port} (hp : p ∉ a.owed) : p ∉ b.owed :=
  fun hb => hp (h.owed.subset hb)

theorem Desk.afterRetire_rec (p : Port) (d : Desk) (h : Handle) :
    (d.afterRetire p).roster.rec? h = (d.roster.rec? h).map (Ann.afterRetire p) := by
  simp [Desk.afterRetire, Roster.rec?]

end Sys2Proof.Machine
end

section
/-! PROOF. The requests of the Berth Table (spec/01). -/

namespace Sys2Proof.Proofs

open Sys2Proof Sys2Proof.Machine

/-- Settles O15: OCCUPIED and DUPLICATE in their order, else the record of R9 in the slot, and a walk. -/
theorem openBerth : Obligations.OpenBerth := by
  intro items s q hitems
  simp only [exec, execOpenBerth, hitems]
  refine ⟨fun hopen => ?_, fun hvacant hdup => ?_, fun hvacant hnew => ?_⟩
  · rw [if_pos hopen]; exact .of_refuse _ _ _
  · rw [if_neg (by rw [State.isOpen_of_vacant hvacant]; decide), if_pos]
    · exact .of_refuse _ _ _
    · rw [Option.isSome_iff_ne_none, Ne, State.portOfRef_eq_none]
      obtain ⟨p, b, hb, href⟩ := hdup
      exact fun h => h p b hb href
  · rw [if_neg (by rw [State.isOpen_of_vacant hvacant]; decide),
      if_neg (by rw [State.portOfRef_eq_none.2 hnew]; decide)]
    exact .of_accept (State.openBerth_eq hvacant) rfl

/-- Settles O16: the refusals of R11 in their order, else the change set as one claim, which leaves the timer, the button and
the ramp of a lawful berth alone. -/
theorem amendBerth : Obligations.AmendBerth := by
  intro items s q hitems
  simp only [exec, execAmendBerth, hitems]
  refine ⟨fun hvacant => ?_, fun b hslot => ?_⟩
  · rw [State.image_of_vacant hvacant]; exact .of_refuse _ _ _
  rw [State.image_of_slot hslot]
  dsimp only
  have hstale : (∀ g ∈ q.expected, g = b.image.generation) → ¬q.expected.any (· != b.image.generation) = true := by
    intro h hany
    obtain ⟨g, hg, hne⟩ := expected_any_ne.1 hany
    exact hne (h g hg)
  refine ⟨fun h => ?_, fun h hnames hringing => ?_, fun h hquiet hlawful => ?_⟩
  · rw [if_pos (expected_any_ne.2 h)]; rfl
  · rw [if_neg (hstale h), if_pos (by rw [Changes.meetsRinging, hnames, WakeStatus.ringing_iff.2 hringing]; rfl)]
    exact .of_refuse _ _ _
  · rw [if_neg (hstale h), if_neg (by rwa [Changes.meetsRinging, Bool.and_eq_true, WakeStatus.ringing_iff])]
    refine .of_accept ?_ rfl
    rw [State.amendBerth_eq hlawful hslot, Changes.apply_eq]

end Sys2Proof.Proofs
end

section
/-! SUPPORT. The retire of a berth as an event at the Roster (spec/01 R16; 04 R79, R80). -/

namespace Sys2Proof.Machine

open Sys2Proof

/-- The retire names every record, sets no flag but ANNOUNCE_DONE, and leaves each slot as full as it was. -/
theorem Desk.afterRetire_keeps (p : Port) (d : Desk) : d.Keeps (fun _ => True) (d.afterRetire p) := by
  have hflag := Desk.Keeps.flag (fun _ => True) (k := .announceDone) (.inl rfl) d
  refine ⟨rfl, rfl, ?_, ?_, fun g => by rw [Desk.afterRetire_rec, Option.isSome_map], fun g h => absurd trivial h⟩
  · unfold Desk.afterRetire
    dsimp only
    split
    · exact hflag.coach
    · rfl
  · unfold Desk.afterRetire
    dsimp only
    split
    · exact hflag.sticky
    · exact BitVec.and_self

section

variable {s t : State} {p : Port} {b : Berth} (hmembers : s.MembersLawful) (ht : (s.retireBerth p).SettledFrom t)
include hmembers

/-- The desk a retire leaves: every record `afterRetire`, and the scan. -/
theorem State.deskAfter_retire :
    (s.vacated p).deskAfter (fun _ => Desk.retire (s.putSlots (s.slots.set p.val none)) p) =
      (Desk.afterRetire p { roster := s.roster, coach := s.events.coach }).scan (s.vacated p) := by
  have hheard : ∀ h : Handle, ∀ a ∈ s.roster.rec? h, a.audience.erase p = [] → a.joined.erase p = [] := by
    intro h a ha hempty
    rw [List.eq_nil_iff_forall_not_mem] at hempty ⊢
    exact fun q hq => hempty q (((hmembers h a ha).withdraw p).heard q hq)
  have hdesk : (⟨(s.vacated p).roster, (s.vacated p).events.coach⟩ : Desk) = ⟨s.roster, s.events.coach⟩ := by
    unfold State.vacated
    rw [State.copyIfIdle_roster, State.copyIfIdle_events]
    rfl
  unfold State.deskAfter
  rw [hdesk]
  dsimp only
  rw [Desk.retire_eq _ _ hheard]
  refine Desk.scan_congr ?_ ?_ ?_ _
  · unfold State.vacated; rw [State.copyIfIdle_slots]; rfl
  · unfold State.vacated; rw [State.copyIfIdle_policy]; rfl
  · unfold State.vacated; rw [State.copyIfIdle_ports]; rfl

include ht

/-- The retired port is in no set of any record (01 R16). -/
theorem State.not_member_of_retired {h : Handle} {a : Ann} (ha : t.roster.rec? h = some a) :
    p ∉ a.owed ∧ p ∉ a.audience ∧ p ∉ a.joined := by
  have hslots : t.slots = (s.retireBerth p).slots := ht.field State.slots fun _ _ _ _ => rfl
  have hlawful : t.MembersLawful := State.membersLawful_of_roster (State.membersLawful_retireBerth p hmembers)
    (fun q hq => by unfold State.isOpen at hq ⊢; rw [hslots]; exact hq) (.inr ⟨t.ports, ht.roster⟩)
  have hrec := hlawful h a ha
  have howed : p ∉ a.owed := fun hp => by
    have hopen := hrec.isOpen p hp
    unfold State.isOpen at hopen
    rw [hslots, State.retireBerth_slots_get, if_pos rfl] at hopen
    cases hopen
  exact ⟨howed, fun hp => howed (hrec.drawn p hp), fun hp => howed (hrec.drawn p (hrec.heard p hp))⟩

/-- A settled retire: the desk of `Desk.afterRetire` and the scan, and in each slot the record that was there, withdrawn. -/
theorem State.retire_settled :
    (s.vacated p).RosterOnly t
        ((Desk.afterRetire p { roster := s.roster, coach := s.events.coach }).scan (s.vacated p)) ∧
      t.roster.order = s.roster.order ∧ t.roster.counter = s.roster.counter ∧
      ∀ h : Handle, (s.roster.rec? h).isSome = (t.roster.rec? h).isSome ∧
        ∀ a a' : Ann, s.roster.rec? h = some a → t.roster.rec? h = some a' →
          a'.withdrawn = a.withdrawn + (if p ∈ a.owed then 1 else 0) ∧
            a'.tag = a.tag ∧ a'.number = a.number ∧ a'.admitted = a.admitted := by
  have hdesk := State.deskAfter_retire (p := p) hmembers
  have hscan := Desk.scan_keeps (fun _ => False) (s.vacated p)
    (Desk.afterRetire p { roster := s.roster, coach := s.events.coach })
  have hkeeps := (Desk.afterRetire_keeps p { roster := s.roster, coach := s.events.coach }).trans
    (hscan.mono fun _ h => h.elim)
  have hcoach : (s.vacated p).events = s.events := by
    unfold State.vacated; rw [State.copyIfIdle_events]; rfl
  rw [State.retireBerth_eq] at ht
  have hrec := fun h => ht.rec_desk h
  have hroster : t.roster = (((Desk.afterRetire p { roster := s.roster, coach := s.events.coach }).scan
      (s.vacated p)).roster).depart t.ports := by
    rw [ht.roster, State.atDesk_eq, hdesk]
  have honly := State.rosterOnly_of_keeps (by rw [hdesk, hcoach]; exact hkeeps.coach)
    (by rw [hdesk, hcoach]; exact hkeeps.sticky) ht
  rw [hdesk] at hrec honly
  refine ⟨honly, by rw [hroster, Roster.depart_order]; exact hkeeps.order,
    by rw [hroster, Roster.depart_counter]; exact hkeeps.counter,
    fun h => ⟨?_, fun a a' ha ha' => ?_⟩⟩
  · rw [hrec, Option.isSome_map]; exact hkeeps.present h
  · rw [hrec] at ha'
    obtain ⟨x, hx, rfl⟩ := Option.map_eq_some_iff.1 ha'
    have hretired : (Desk.afterRetire p { roster := s.roster, coach := s.events.coach }).roster.rec? h =
        some (a.afterRetire p) := by
      rw [Desk.afterRetire_rec]
      show (s.roster.rec? h).map _ = _
      rw [ha]; rfl
    have hkept := (hscan.kept h id _ _ hretired hx).trans (Ann.Kept.depart t.ports x)
    rw [hkept.fields]
    exact a.afterRetire_fields p

end

end Sys2Proof.Machine
end

section
/-! PROOF. RETIRE_BERTH (spec/01 R14, R16). -/

namespace Sys2Proof.Proofs

open Sys2Proof Sys2Proof.Machine

/-- Settles O17: the refusals of R14 in their order, else the hand-offs of R16. -/
theorem retireBerth : Obligations.RetireBerth := by
  intro items s q hitems
  simp only [exec, execRetireBerth, hitems]
  refine ⟨fun hvacant => ?_, fun b hslot => ?_⟩
  · rw [State.image_of_vacant hvacant]; exact .of_refuse _ _ _
  rw [State.image_of_slot hslot]
  dsimp only
  refine ⟨fun h => ?_, fun h hmembers => ?_⟩
  · rw [if_pos (expected_any_ne.2 h)]; rfl
  · have hstale : ¬q.expected.any (· != b.image.generation) = true := fun hany =>
      let ⟨g, hg, hne⟩ := expected_any_ne.1 hany
      hne (h g hg)
    rw [if_neg hstale]
    obtain ⟨t, hnext, ht, hreply⟩ := Takes.of_accept (code := 0x12#8) (data := fun _ => []) (data' := fun _ => [])
      (rfl : s.retireBerth q.port = s.retireBerth q.port) rfl
    obtain ⟨honly, horder, hcounter, hrecs⟩ := State.retire_settled hmembers ht
    rw [State.vacated_eq hslot] at honly
    refine ⟨t, hnext, hreply, honly, horder, hcounter, fun h => ⟨(hrecs h).1, fun a a' ha ha' => ?_⟩⟩
    obtain ⟨howed, haudience, hjoined⟩ := State.not_member_of_retired hmembers ht ha'
    exact ⟨howed, haudience, hjoined, (hrecs h).2 a a' ha ha'⟩

end Sys2Proof.Proofs
end

section
/-! SUPPORT. Claims, passenger requests and the reads of the records (spec/01 R4, R5, R18 to R25; 05 R91). -/

namespace Sys2Proof.Machine

open Sys2Proof

/-! ### Claims -/

theorem Image.advance_of_same {old new : Image}
    (h : ∃ g, { new with generation := g } = { old with generation := g }) : old.advance new = old := by
  obtain ⟨g, hg⟩ := h
  refine Image.advance_of_eq ?_
  exact congrArg (fun i : Image => { i with generation := old.generation }) hg

section

variable {before after activity : Bool} {load : Reload} {timer : Option Reload}

theorem nextTimer_stopped (h : after = false) : nextTimer before after activity load timer = none := by
  subst h; rfl

theorem nextTimer_loaded (h : after = true) (hload : activity = true ∨ before = false) :
    nextTimer before after activity load timer = some load := by
  subst h
  rcases hload with rfl | rfl
  · cases before <;> rfl
  · rfl

theorem nextTimer_kept (h : after = true) (hactivity : activity = false) (hbefore : before = true) :
    nextTimer before after activity load timer = timer := by
  subst h hactivity hbefore; rfl

end

/-! ### Passenger requests -/

/-- A request whose values are in range, on an open berth: LOCKED, UNAVAILABLE, or one claim with the activity (01 R20). -/
theorem State.passenger_of_request {s : State} {p : Port} {b : Berth} (hslot : s.slots[p] = some b) {code value : Byte}
    {q : PassengerRequest} (hq : passengerRequest code value = some q) :
    s.passenger p code value =
      if q.lockedBy b.image.locked = true then (.locked, s)
      else match s.requestEffect p b.image q with
        | none => (.unavailable, s)
        | some (v, i) => (v, s.claim p true fun _ => i.active) := by
  unfold State.passenger
  rw [hslot]
  dsimp only
  rw [hq] <;> rfl

theorem State.passenger_of_invalid {s : State} {p : Port} {b : Berth} (hslot : s.slots[p] = some b) {code value : Byte}
    (hq : passengerRequest code value = none) : s.passenger p code value = (.invalid, s) := by
  unfold State.passenger
  rw [hslot]
  dsimp only
  rw [hq]

theorem Byte.toNat_ofNat_lt {n : Nat} (h : n < 256) : (BitVec.ofNat 8 n).toNat = n := by
  rw [BitVec.toNat_ofNat]; exact Nat.mod_eq_of_lt h

theorem passengerRequest_program (c : Program) :
    passengerRequest 1#8 (BitVec.ofNat 8 c.val) = some (.selectProgram (some c)) := by
  have hc : (BitVec.ofNat 8 c.val).toNat = c.val := Byte.toNat_ofNat_lt (by omega)
  have hne : BitVec.ofNat 8 c.val ≠ 0xFF#8 := fun h => by
    have := congrArg BitVec.toNat h
    rw [hc] at this
    have : c.val = 255 := this
    omega
  show (if BitVec.ofNat 8 c.val = 0xFF#8 then _ else _) = _
  rw [if_neg hne, dif_pos (by rw [hc]; exact c.isLt)]
  simp only [hc]

theorem passengerRequest_language (l : Fin 16) :
    passengerRequest 2#8 (BitVec.ofNat 8 l.val) = some (.setLanguage l) := by
  have hl : (BitVec.ofNat 8 l.val).toNat = l.val := Byte.toNat_ofNat_lt (by omega)
  show (if h : _ then _ else _) = _
  rw [dif_pos (by rw [hl]; exact l.isLt)]
  simp only [hl]

theorem passengerRequest_volume (v : Fin 32) :
    passengerRequest 3#8 (BitVec.ofNat 8 v.val) = some (.setVolume v) := by
  have hv : (BitVec.ofNat 8 v.val).toNat = v.val := Byte.toNat_ofNat_lt (by omega)
  show (if h : _ then _ else _) = _
  rw [dif_pos (by rw [hv]; exact v.isLt)]
  simp only [hv]

/-- What 13 R183 leaves out is INVALID. -/
theorem passengerRequest_none {code value : Byte}
    (h : (code ≠ 1#8 ∧ code ≠ 2#8 ∧ code ≠ 3#8 ∧ code ≠ 4#8) ∨ (code = 1#8 ∧ 12 ≤ value.toNat ∧ value ≠ 0xFF#8) ∨
      (code = 2#8 ∧ 16 ≤ value.toNat) ∨ (code = 3#8 ∧ 32 ≤ value.toNat) ∨ (code = 4#8 ∧ 2 ≤ value.toNat)) :
    passengerRequest code value = none := by
  rcases h with ⟨h1, h2, h3, h4⟩ | ⟨rfl, hlt, hne⟩ | ⟨rfl, hlt⟩ | ⟨rfl, hlt⟩ | ⟨rfl, hlt⟩
  · have hcode : ∀ n < 256, code ≠ BitVec.ofNat 8 n → code.toNat ≠ n := fun n hn hc e =>
      hc (BitVec.eq_of_toNat_eq (by rw [e, Byte.toNat_ofNat_lt hn]))
    unfold passengerRequest
    split
    · next e => exact absurd e (hcode 1 (by decide) h1)
    · next e => exact absurd e (hcode 2 (by decide) h2)
    · next e => exact absurd e (hcode 3 (by decide) h3)
    · next e => exact absurd e (hcode 4 (by decide) h4)
    · rfl
  · show (if value = 0xFF#8 then _ else _) = _
    rw [if_neg hne, dif_neg (by omega)]
  · show (if h : _ then _ else _) = _
    rw [dif_neg (by omega)]
  · show (if h : _ then _ else _) = _
    rw [dif_neg (by omega)]
  · have hvalue : ∀ n < 2, value ≠ BitVec.ofNat 8 n := fun n hn e => by
      rw [e, Byte.toNat_ofNat_lt (by omega)] at hlt; omega
    show (if value = 1#8 then _ else if value = 0#8 then _ else _) = _
    rw [if_neg (hvalue 1 (by decide)), if_neg (hvalue 0 (by decide))]

/-! ### Reading the table -/

/-- With distinct references, the port found is the port that holds the reference (01 R8, R19). -/
theorem State.portOfRef_eq_some {s : State} (hs : s.RefsDistinct) {p : Port} {b : Berth} (hb : s.slots[p] = some b) :
    s.portOfRef b.image.ref = some p := by
  cases hfind : s.portOfRef b.image.ref with
  | none => exact absurd rfl (State.portOfRef_eq_none.1 hfind p b hb)
  | some q =>
    unfold State.portOfRef at hfind
    have hany := List.find?_some hfind
    obtain ⟨c, hc, href⟩ := (Option.any_eq_true ..).1 hany
    rw [hs q p c hc b hb (by simpa using href)]

end Sys2Proof.Machine
end

section
/-! PROOF. Claims, passenger requests and the reads of the records (spec/01; 03 R66). -/

namespace Sys2Proof.Proofs

open Sys2Proof Sys2Proof.Machine

/-- Settles O18: each read answers from the slot or the table it names, and changes nothing. -/
theorem recordReads : Obligations.RecordReads := by
  refine ⟨fun items s => ⟨fun h => ?_, fun h => ?_, fun p h => ?_, fun ref h => ⟨fun hnone => ?_, fun hs p b hb href => ?_⟩,
    fun h => ?_⟩, fun items s => ⟨fun h => ?_, fun g h => ⟨fun hfree => ?_, fun a ha => ?_⟩, fun h => ?_⟩⟩
  · simp only [exec, execLookupBerth, h]; exact .of_refuse _ _ _
  · simp only [exec, execFindOccupant, h]; exact .of_refuse _ _ _
  · simp only [exec, execLookupBerth, h]
    cases hslot : s.slots[p] with
    | none => have := Replies.of_answer 0x13#8 (fun t => [slotBytes t.slots[p]]) s; rwa [hslot] at this
    | some b => have := Replies.of_answer 0x13#8 (fun t => [slotBytes t.slots[p]]) s; rwa [hslot] at this
  · simp only [exec, execFindOccupant, h, State.portOfRef_eq_none.2 hnone]; exact .of_refuse _ _ _
  · subst href
    simp only [exec, execFindOccupant, h, State.portOfRef_eq_some hs hb]
    exact .of_answer _ _ _
  · subst h
    exact .of_answer 0x15#8 (fun t : State => [marksBytes (portMarks t.openPorts), byteOf t.openPorts.length]) s
  · simp only [exec, execLookupAnnounce, h]; exact .of_refuse _ _ _
  · simp only [exec, execLookupAnnounce, h, hfree]; exact .of_refuse _ _ _
  · simp only [exec, execLookupAnnounce, h, ha]; exact .of_answer _ _ _
  · subst h
    have hdata : (allHandles.map fun h => optBytes Ann.summary (s.roster.rec? h)) =
        (allHandles.map fun h => match s.roster.rec? h with
          | none => []
          | some a => byteOf a.state.code ++ byteOf a.cls.code ++ bytes2 a.tag ++
              match a.outcome with
              | none => []
              | some o => byteOf o.code) := by
      refine List.map_congr_left fun h _ => ?_
      cases s.roster.rec? h with
      | none => rfl
      | some a => cases ha : a.outcome <;> simp [optBytes, Ann.summary, ha]
    exact hdata ▸ Replies.of_answer 0x25#8 (fun t : State => allHandles.map fun h => optBytes Ann.summary (t.roster.rec? h)) s

/-- Settles O19: the generation and the timer of one claim, and the walk of a change of the table. -/
theorem claimAdvancesGeneration : Obligations.ClaimAdvancesGeneration := by
  refine ⟨fun alert load activity f b => ⟨fun h => ?_, fun h => ?_, fun h => nextTimer_stopped h,
    fun h hload => nextTimer_loaded h hload, fun h hactivity hbefore => nextTimer_kept h hactivity hbefore, rfl, rfl⟩,
    fun v s => ⟨State.putSlots_same, fun ⟨p, hp⟩ => State.putSlots_changed p hp⟩⟩
  · exact Image.advance_of_ne (h b.image.generation)
  · exact Image.advance_of_same h

/-- Settles O20: the verdicts of R20 in their order, request by request. -/
theorem passengerRequests : Obligations.PassengerRequests := by
  intro p s
  refine ⟨rfl, fun code value rest => rfl, fun hvacant code value => ?_, fun b hslot => ?_⟩
  · unfold State.passenger; rw [hvacant]
  have hrequest : ∀ {code value : Byte} {q : PassengerRequest}, passengerRequest code value = some q → _ := fun hq =>
    State.passenger_of_request hslot hq
  refine ⟨fun code value h => State.passenger_of_invalid hslot (passengerRequest_none h), ?_, fun c => ?_, fun l => ?_,
    fun v => ?_, ?_, ?_⟩
  · exact hrequest (q := .selectProgram none) rfl
  · rw [hrequest (passengerRequest_program c)]
    refine if_congr Iff.rfl rfl ?_
    by_cases habsent : (s.programFeed c).state = .absent
    · simp only [State.requestEffect, if_pos habsent]
    · simp only [State.requestEffect, if_neg habsent]
      rfl
  · exact hrequest (passengerRequest_language l)
  · rw [hrequest (passengerRequest_volume v)]
    refine if_congr Iff.rfl rfl ?_
    by_cases hle : v.val ≤ s.ceiling p b.image
    · simp only [State.requestEffect, if_pos hle]
      rfl
    · simp only [State.requestEffect, if_neg hle]
      rfl
  · rw [hrequest (q := .stepVolume true) rfl]
    refine if_congr Iff.rfl rfl ?_
    simp only [State.requestEffect, stepVolume, if_true]
    split <;> rfl
  · rw [hrequest (q := .stepVolume false) rfl]
    refine if_congr Iff.rfl rfl ?_
    simp only [State.requestEffect, stepVolume, Bool.false_eq_true, if_false]
    split <;> rfl

end Sys2Proof.Proofs
end

section
/-! SUPPORT. The order of rank, the current announcement, and the cases of the Resolver (spec/02 R32 to R38; 03 R50). -/

namespace Sys2Proof.Machine

open Sys2Proof

/-! ### The current announcement -/

/-- The order of admission is the order of its own positions. -/
theorem List.Nodup.pairwise_idxOf {α : Type} [DecidableEq α] {l : List α} (h : l.Nodup) :
    l.Pairwise fun g k => l.idxOf g < l.idxOf k := by
  rw [List.pairwise_iff_getElem]
  intro i j hi hj hij
  rw [h.idxOf_getElem, h.idxOf_getElem]
  exact hij

/-- The rank lists each record before every record it outranks (03 R50). -/
theorem Roster.ranked_pairwise {r : Roster} (ho : r.Ordered) : r.ranked.Pairwise r.Outranks := by
  have hclass : ∀ {h : Handle} {k : AnnClass}, h ∈ r.order.filter (r.test fun a => decide (a.cls = k)) →
      ∃ a, r.rec? h = some a ∧ a.cls = k := by
    intro h k hh
    obtain ⟨a, ha, hk⟩ := Roster.test_eq_true.1 (List.mem_filter.1 hh).2
    exact ⟨a, ha, of_decide_eq_true hk⟩
  refine List.pairwise_flatMap.2 ⟨fun k _ => ?_, ?_⟩
  · refine (List.Pairwise.filter _ (List.Nodup.pairwise_idxOf ho.1)).imp_of_mem fun hg hh hlt => ?_
    obtain ⟨a, ha, hka⟩ := hclass hg
    obtain ⟨b, hb, hkb⟩ := hclass hh
    exact ⟨a, b, ha, hb, .inr ⟨hka.trans hkb.symm, hlt⟩⟩
  · have hcodes : AnnClass.byRank.Pairwise fun k m => k.code < m.code := by decide
    refine hcodes.imp fun {k m} hlt g hg h hh => ?_
    obtain ⟨a, ha, rfl⟩ := hclass hg
    obtain ⟨b, hb, rfl⟩ := hclass hh
    exact ⟨a, b, ha, hb, .inl hlt⟩

/-- What a slot offers a berth as its current announcement. -/
def Roster.offers (r : Roster) (p : Port) (h : Handle) : Option (Ann × Channel) :=
  match r.rec? h with
  | some a => if a.onAir && a.audience.contains p then a.channel.map fun c => (a, c) else none
  | none => none

theorem Roster.current_eq (r : Roster) (p : Port) : r.current p = r.ranked.findSome? (r.offers p) := rfl

theorem Roster.offers_eq_some {r : Roster} {p : Port} {h : Handle} {a : Ann} {c : Channel} :
    r.offers p h = some (a, c) ↔ r.rec? h = some a ∧ a.onAir = true ∧ p ∈ a.audience ∧ a.channel = some c := by
  unfold Roster.offers
  cases hrec : r.rec? h with
  | none => simp
  | some b =>
    by_cases hair : (b.onAir && b.audience.contains p) = true
    · simp only [hair, if_true, Option.map_eq_some_iff, Option.some.injEq, Prod.mk.injEq]
      simp only [Bool.and_eq_true, List.contains_iff_mem] at hair
      constructor
      · rintro ⟨k, hk, rfl, rfl⟩; exact ⟨rfl, hair.1, hair.2, hk⟩
      · rintro ⟨rfl, -, -, hk⟩; exact ⟨c, hk, rfl, rfl⟩
    · have hsilent : ¬(b.onAir = true ∧ p ∈ b.audience) := by
        rwa [Bool.and_eq_true, List.contains_iff_mem] at hair
      simp only [hair, Option.some.injEq, Bool.false_eq_true, if_false]
      refine ⟨nofun, ?_⟩
      rintro ⟨rfl, hon, hin, -⟩
      exact absurd ⟨hon, hin⟩ hsilent

/-- In a lawful Roster each record on the air for a berth offers itself: it holds a channel (03 R54, R56). -/
theorem Roster.Lawful.offers {r : Roster} (hr : r.Lawful) {p : Port} {h : Handle} {a : Ann} (ha : r.rec? h = some a)
    (hair : a.onAir = true) (hin : p ∈ a.audience) : ∃ c, r.offers p h = some (a, c) := by
  obtain ⟨c, hc⟩ := Option.isSome_iff_exists.1 ((hr.shaped h a ha).channel.trans hair)
  exact ⟨c, Roster.offers_eq_some.2 ⟨ha, hair, hin, hc⟩⟩

/-- Every record stands in the rank. -/
theorem Roster.Lawful.mem_ranked {r : Roster} (hr : r.Lawful) {h : Handle} {a : Ann} (ha : r.rec? h = some a) :
    h ∈ r.ranked := by
  have hsome : (r.rec? h).isSome = true := by rw [ha]; rfl
  exact Roster.mem_ranked.2 ⟨(hr.ordered.2 h).2 hsome, hsome⟩

theorem Roster.Lawful.current_eq_none {r : Roster} (hr : r.Lawful) (p : Port) :
    r.current p = none ↔ ∀ h : Handle, ∀ a ∈ r.rec? h, ¬(a.onAir = true ∧ p ∈ a.audience) := by
  rw [Roster.current_eq, List.findSome?_eq_none_iff]
  constructor
  · rintro hnone h a ha ⟨hair, hin⟩
    obtain ⟨c, hc⟩ := hr.offers ha hair hin
    exact absurd (hnone h (hr.mem_ranked ha)) (by rw [hc]; exact nofun)
  · intro hquiet h _
    refine Option.eq_none_iff_forall_ne_some.2 fun ⟨a, c⟩ hoffer => ?_
    obtain ⟨ha, hair, hin, -⟩ := Roster.offers_eq_some.1 hoffer
    exact hquiet h a ha ⟨hair, hin⟩

/-- The current announcement stands in the rank before every other record on the air for the berth. -/
theorem Roster.Lawful.current_eq_some {r : Roster} (hr : r.Lawful) {p : Port} {a : Ann} {c : Channel}
    (hcurrent : r.current p = some (a, c)) :
    ∃ h : Handle, r.offers p h = some (a, c) ∧
      ∀ g : Handle, g ≠ h → ∀ b ∈ r.rec? g, b.onAir = true → p ∈ b.audience → r.Outranks h g := by
  rw [Roster.current_eq, List.findSome?_eq_some_iff] at hcurrent
  obtain ⟨above, h, below, hranked, hoffer, hsilent⟩ := hcurrent
  refine ⟨h, hoffer, fun g hgh b hb hair hin => ?_⟩
  obtain ⟨k, hk⟩ := hr.offers hb hair hin
  have hpair := Roster.ranked_pairwise hr.ordered
  rw [hranked] at hpair
  have hg : g ∈ above ++ h :: below := hranked ▸ hr.mem_ranked hb
  rcases List.mem_append.1 hg with habove | hrest
  · exact absurd (hsilent g habove) (by rw [hk]; exact nofun)
  · rcases List.mem_cons.1 hrest with rfl | hbelow
    · exact absurd rfl hgh
    · exact (List.pairwise_cons.1 (List.pairwise_append.1 hpair).2.1).1 g hbelow

/-! ### The cases of R32 -/

theorem State.resolve_vacant {s : State} {p : Port} (hactive : s.ports[p].state = .active) (hvacant : s.slots[p] = none) :
    s.resolve p = some .vacant := by
  simp only [State.resolve, hactive, hvacant, if_true]

section

variable {s : State} {p : Port} {b : Berth}

theorem State.occupied_announce {a : Ann} {c : Channel} (hcurrent : s.roster.current p = some (a, c)) :
    s.occupied p b =
      { video := if b.image.state = .awake ∧ s.alert.state = .clear then s.programVideo p b.image else none
        audio := .announce c
        gain := s.gain p b (some a) (.announce c)
        screen := if b.image.state = .night ∧ s.alert.state = .clear then .dim else .on
        lamp := s.lamp p b.image } := by
  unfold State.occupied; rw [hcurrent]

theorem State.occupied_alert (hcurrent : s.roster.current p = none) (halert : s.alert.state ≠ .clear) :
    s.occupied p b =
      { video := none, audio := if b.image.state = .waking then .wake else .silent
        gain := s.gain p b none (if b.image.state = .waking then .wake else .silent), screen := .on
        lamp := s.lamp p b.image } := by
  unfold State.occupied; rw [hcurrent]; exact if_neg halert

theorem State.occupied_waking (hcurrent : s.roster.current p = none) (halert : s.alert.state = .clear)
    (hstate : b.image.state = .waking) :
    s.occupied p b =
      { video := none, audio := .wake, gain := s.gain p b none .wake, screen := .on, lamp := s.lamp p b.image } := by
  unfold State.occupied; rw [hcurrent]; dsimp only; rw [if_pos halert, hstate]

theorem State.occupied_night (hcurrent : s.roster.current p = none) (halert : s.alert.state = .clear)
    (hstate : b.image.state = .night) :
    s.occupied p b = { video := none, audio := .silent, gain := 0, screen := .off, lamp := s.lamp p b.image } := by
  unfold State.occupied; rw [hcurrent]; dsimp only; rw [if_pos halert, hstate]

theorem State.occupied_awake (hcurrent : s.roster.current p = none) (halert : s.alert.state = .clear)
    (hstate : b.image.state = .awake) :
    s.occupied p b =
      { video := s.programVideo p b.image, audio := s.programAudio b.image
        gain := s.gain p b none (s.programAudio b.image), screen := if b.image.idle then .dim else .on
        lamp := s.lamp p b.image } := by
  unfold State.occupied; rw [hcurrent]; dsimp only; rw [if_pos halert, hstate]

end

/-! ### The program audio (R36) -/

/-- The lowest-numbered track in the language. -/
theorem Descriptor.track_of_mem {l : Fin 16} {d : Descriptor} (h : l ∈ d.languages) :
    d.languages[d.track l]? = some l ∧ ∀ m : Nat, m < d.track l → d.languages[m]? ≠ some l := by
  have hlt : d.languages.findIdx (· == l) < d.languages.length :=
    List.findIdx_lt_length_of_exists ⟨l, h, beq_self_eq_true l⟩
  have htrack : d.track l = d.languages.findIdx (· == l) := if_pos hlt
  rw [htrack]
  refine ⟨?_, fun m hm hget => ?_⟩
  · rw [List.getElem?_eq_getElem hlt]
    exact congrArg some (eq_of_beq (List.findIdx_getElem (w := hlt)))
  · obtain ⟨hlen, hl⟩ := List.getElem?_eq_some_iff.1 hget
    have hne := List.not_of_lt_findIdx hm
    rw [hl, beq_self_eq_true] at hne
    exact absurd hne nofun

/-- With no track in the language, track 0. -/
theorem Descriptor.track_of_not_mem {l : Fin 16} {d : Descriptor} (h : l ∉ d.languages) : d.track l = 0 := by
  have hge : ¬d.languages.findIdx (· == l) < d.languages.length := fun hlt => by
    refine h ?_
    have hget := List.findIdx_getElem (w := hlt)
    exact eq_of_beq hget ▸ List.getElem_mem hlt
  exact if_neg hge

section

variable {s : State} {i : Image} {c : Program}

theorem State.programAudio_unselected (h : i.program = none) : s.programAudio i = .silent := by
  unfold State.programAudio; rw [h]

theorem State.programAudio_inactive (h : i.program = some c) (hfeed : (s.programFeed c).state ≠ .active) :
    s.programAudio i = .silent := by
  unfold State.programAudio; rw [h]; exact if_neg hfeed

theorem State.programAudio_active (h : i.program = some c) (hfeed : (s.programFeed c).state = .active) :
    s.programAudio i = .program c ((s.programFeed c).desc.elim 0 (Descriptor.track i.language)) := by
  unfold State.programAudio; rw [h]; exact if_pos hfeed

end

/-! ### The gain rows (R38) -/

/-- Above the effective ceiling the gain is that of the alert, of a SAFETY announcement, or of a ramp in RINGING_2. -/
theorem State.gain_above_ceiling {s : State} {p : Port} {b : Berth} {current : Option Ann} {audio : Audio}
    (h : s.ceiling p b.image < s.gain p b current audio) :
    s.alert.state = .active ∨ (∃ a, current = some a ∧ a.cls = .safety) ∨ b.image.wake = .ringing2 := by
  unfold State.gain at h
  by_cases halert : s.alert.state = .active
  · exact .inl halert
  by_cases hsafety : (current.any fun a => decide (a.cls = .safety)) = true
  · obtain ⟨a, ha, hcls⟩ := (Option.any_eq_true ..).1 hsafety
    exact .inr (.inl ⟨a, ha, of_decide_eq_true hcls⟩)
  by_cases hring2 : audio = .wake ∧ b.image.wake = .ringing2
  · exact .inr (.inr hring2.2)
  rw [if_neg halert, if_neg hsafety, if_neg hring2] at h
  split at h <;> omega

/-- With no announcement on the air for the berth, a gain above the ceiling is one of `gain`'s. -/
theorem State.occupied_gain {s : State} {p : Port} {b : Berth} (hcurrent : s.roster.current p = none) :
    (s.occupied p b).gain = 0 ∨ ∃ audio, (s.occupied p b).gain = s.gain p b none audio := by
  by_cases halert : s.alert.state = .clear
  · cases hstate : b.image.state with
    | waking => rw [State.occupied_waking hcurrent halert hstate]; exact .inr ⟨_, rfl⟩
    | night => rw [State.occupied_night hcurrent halert hstate]; exact .inl rfl
    | awake => rw [State.occupied_awake hcurrent halert hstate]; exact .inr ⟨_, rfl⟩
  · rw [State.occupied_alert hcurrent halert]; exact .inr ⟨_, rfl⟩

/-- The start of R37 with the mode's ceiling written out. -/
theorem State.ceiling_eq (s : State) (p : Port) (i : Image) :
    s.ceiling p i =
      let start := i.ceiling.getD (if s.quiet = .day then s.policy.dayCeiling else s.policy.quietCeiling)
      if s.quiet = .quiet ∧ s.ports[p].headphones = false then min start s.policy.speakerCeiling else start := by
  have hmode : s.modeCeiling = if s.quiet = .day then s.policy.dayCeiling else s.policy.quietCeiling := by
    unfold State.modeCeiling; cases s.quiet <;> rfl
  rw [← hmode]; rfl

/-! ### Delivery (R43 to R45) -/

section

variable {r : PortRec} {d : Presentation}

/-- Nothing to deliver: the desired presentation is acknowledged. -/
theorem PortRec.directive_acked (h : r.desired = some d) (hacked : r.acked.map Versioned.pres = some d) :
    r.directive = none := by
  unfold PortRec.directive; rw [h]; exact if_pos hacked

/-- It was sent and is not acknowledged: it is sent again under its version. -/
theorem PortRec.directive_resent (h : r.desired = some d) (hacked : r.acked.map Versioned.pres ≠ some d)
    (hsent : r.lastSent.map Versioned.pres = some d) : r.directive = r.lastSent := by
  unfold PortRec.directive; rw [h]; exact (if_neg hacked).trans (if_pos hsent)

theorem PortRec.directive_new (h : r.desired = some d) (hacked : r.acked.map Versioned.pres ≠ some d)
    (hsent : r.lastSent.map Versioned.pres ≠ some d) : r.directive = some { version := r.nextVersion, pres := d } := by
  unfold PortRec.directive; rw [h]; exact (if_neg hacked).trans (if_neg hsent)

theorem PortRec.sent_of_none (h : r.directive = none) : r.sent = r := by
  unfold PortRec.sent; rw [h]

theorem PortRec.sent_of_some {v : Versioned} (h : r.directive = some v) : r.sent = { r with lastSent := some v } := by
  unfold PortRec.sent; rw [h]

/-- No held version carries the presentation. -/
theorem Versioned.map_pres_ne {o : Option Versioned} (h : ∀ v ∈ o, v.pres ≠ d) : o.map Versioned.pres ≠ some d := by
  intro hd
  obtain ⟨v, hv, rfl⟩ := Option.map_eq_some_iff.1 hd
  exact h v hv rfl

end

end Sys2Proof.Machine
end

section
/-! PROOF. Presentations and their delivery (spec/02 R32 to R45; 03 R71). -/

namespace Sys2Proof.Proofs

open Sys2Proof Sys2Proof.Machine

/-- Settles O21: one lemma per case of R32; the track of R36 by the first index of the language. -/
theorem presentationCases : Obligations.PresentationCases := by
  refine fun s p => ⟨fun h => if_neg h, State.resolve_vacant, fun b hactive hslot => ?_⟩
  rw [State.resolve_of_open hactive hslot]
  refine ⟨fun a c hcurrent => ?_, fun hcurrent halert => ?_, fun hcurrent halert hstate => ?_,
    fun hcurrent halert hstate => ?_,
    fun hcurrent halert hstate => ⟨s.programAudio b.image, ?_, ?_, fun c hc => ⟨?_, fun hfeed => ?_⟩⟩⟩
  · rw [State.occupied_announce hcurrent]; rfl
  · rw [State.occupied_alert hcurrent halert]
  · rw [State.occupied_waking hcurrent halert hstate]
  · rw [State.occupied_night hcurrent halert hstate]
  · rw [State.occupied_awake hcurrent halert hstate]; rfl
  · exact State.programAudio_unselected
  · exact State.programAudio_inactive hc
  · refine ⟨_, State.programAudio_active hc hfeed, fun d hd => ?_⟩
    rw [hd]
    exact ⟨Descriptor.track_of_not_mem, Descriptor.track_of_mem⟩

/-- Settles O22: the rank lists each record before those it outranks, and the first that offers itself is taken. -/
theorem currentAnnouncement : Obligations.CurrentAnnouncement := by
  refine fun s p hr => ⟨hr.current_eq_none p, fun a c hcurrent => ?_⟩
  obtain ⟨h, hoffer, habove⟩ := hr.current_eq_some hcurrent
  obtain ⟨ha, hair, hin, hc⟩ := Roster.offers_eq_some.1 hoffer
  exact ⟨h, ha, hair, hin, hc, habove⟩

/-- Settles O23: the rows of R38 as written, and what can exceed the ceiling, case by case of R32. -/
theorem gainRows : Obligations.GainRows := by
  refine ⟨fun s p b current audio r => ?_, fun s p b d hslot hresolve habove => ?_⟩
  · simp only [← State.ceiling_eq]
    refine ⟨trivial, fun hramp => ?_, fun hramp haudio => ?_⟩
    · unfold State.gain
      simp only [hramp, Option.elim_some, Option.any_eq_true, decide_eq_true_eq]
      rfl
    · unfold State.gain
      simp only [haudio, false_and, if_false, Option.any_eq_true, decide_eq_true_eq]
      rfl
  · by_cases hactive : s.ports[p].state = .active
    swap
    · rw [State.resolve, if_neg hactive] at hresolve; cases hresolve
    rw [State.resolve_of_open hactive hslot] at hresolve
    cases hresolve
    cases hcurrent : s.roster.current p with
    | some announced =>
      obtain ⟨a, c⟩ := announced
      rw [State.occupied_announce hcurrent] at habove
      rcases State.gain_above_ceiling habove with h | ⟨_, ha, h⟩ | h
      · exact .inl h
      · cases ha; exact .inr (.inl ⟨a, c, rfl, h⟩)
      · exact .inr (.inr h)
    | none =>
      rcases State.occupied_gain (b := b) hcurrent with h | ⟨audio, h⟩
      · omega
      · rw [h] at habove
        rcases State.gain_above_ceiling habove with h | ⟨_, h, -⟩ | h
        · exact .inl h
        · exact nomatch h
        · exact .inr (.inr h)

/-- Settles O25: cases 3 and 4 carry no program while the alert is not CLEAR. -/
theorem noProgramDuringAlert : Obligations.NoProgramDuringAlert := by
  intro s p d halert hresolve
  by_cases hactive : s.ports[p].state = .active
  swap
  · rw [State.resolve, if_neg hactive] at hresolve; cases hresolve
  cases hslot : s.slots[p] with
  | none =>
    rw [State.resolve_vacant hactive hslot] at hresolve
    cases hresolve
    exact ⟨rfl, fun _ _ => nofun⟩
  | some b =>
    rw [State.resolve_of_open hactive hslot] at hresolve
    cases hresolve
    cases hcurrent : s.roster.current p with
    | some announced =>
      rw [State.occupied_announce (a := announced.1) (c := announced.2) hcurrent]
      exact ⟨if_neg fun h => halert h.2, fun _ _ => nofun⟩
    | none =>
      rw [State.occupied_alert hcurrent halert]
      refine ⟨rfl, fun c k => ?_⟩
      by_cases hwaking : b.image.state = .waking
      · rw [if_pos hwaking]; exact nofun
      · rw [if_neg hwaking]; exact nofun

/-- Settles O26: the table of R44, row by row. -/
theorem directiveRule : Obligations.DirectiveRule := by
  intro r d hd
  refine ⟨fun ⟨v, hv, hpres⟩ => ?_, fun hacked v hv hpres => ?_, fun hacked hsent => ?_⟩
  · have hnone : r.directive = none := PortRec.directive_acked hd (by rw [hv, ← hpres]; rfl)
    exact ⟨hnone, PortRec.sent_of_none hnone⟩
  · have hagain : r.directive = some v :=
      (PortRec.directive_resent hd (Versioned.map_pres_ne hacked) (by rw [hv, ← hpres]; rfl)).trans hv
    refine ⟨hagain, (PortRec.sent_of_some hagain).trans ?_⟩
    rw [← hv]
  · have hnew := PortRec.directive_new hd (Versioned.map_pres_ne hacked) (Versioned.map_pres_ne hsent)
    exact ⟨hnew, PortRec.sent_of_some hnew⟩

/-- Settles O27: the version of the Response against the version last sent. -/
theorem acknowledgementRule : Obligations.AcknowledgementRule := by
  refine fun r version => ⟨fun v hsent hversion => ?_, fun h => ?_⟩
  · unfold PortRec.acknowledge
    rw [hsent, hversion]
    exact if_pos rfl
  · unfold PortRec.acknowledge
    rcases h with h | h | ⟨v, n, hsent, hversion, hne⟩
    · rw [h]
    · rw [h]; cases r.lastSent <;> rfl
    · rw [hsent, hversion]
      exact if_neg (Ne.symm hne)

end Sys2Proof.Proofs
end

section
/-! SUPPORT. The machine after reset, and requests without their parameters (spec/01 R4; 12 R170, R174). -/

namespace Sys2Proof.Machine

open Sys2Proof

/-! ### The state after reset -/

section

variable (pins : Pins)

theorem State.blank_ports_get (p : Port) : (State.blank pins).ports[p] = PortRec.atReset p := by
  simp [State.blank]

theorem State.blank_feeds_get (f : FeedIx) : (State.blank pins).feeds[f] = Feed.atReset := by
  simp [State.blank]

theorem State.blank_rec (h : Handle) : (State.blank pins).roster.rec? h = none := Roster.atReset_rec h

theorem State.blank_poller (d : Deck) : (State.blank pins).poller d = Poller.atReset := by
  cases d <;> rfl

/-- No port is ACTIVE, so nothing is desired (02 R32). -/
theorem State.blank_resolve (p : Port) : (State.blank pins).resolve p = none := by
  refine if_neg ?_
  rw [State.blank_ports_get]
  exact nofun

/-- No flag is set, so ATTN is low (12 R177). -/
theorem State.blank_attnLevel : (State.blank pins).attnLevel = false := by
  have hport : ∀ p : Port, (State.blank pins).portPending p = false := fun p => by
    unfold State.portPending
    rw [State.blank_ports_get, bne_eq_false_iff_eq]
    exact BitVec.zero_and
  have hzone : ∀ z, (State.blank pins).zonePending z = false := fun z => by
    simp only [State.zonePending, hport, Bool.and_false, List.any_eq_false, Bool.false_eq_true, not_false_eq_true, implies_true]
  simp only [State.attnLevel, hzone, Bool.false_and, Bool.or_eq_false_iff, List.any_eq_false, Bool.false_eq_true,
    not_false_eq_true, implies_true, true_and]
  exact bne_eq_false_iff_eq.2 BitVec.zero_and

end

/-! ### Missing parameters -/

theorem noParams_of_ne_nil {items : List Item} (h : items ≠ []) : noParams items = none := by
  obtain ⟨i, is, rfl⟩ := List.exists_cons_of_ne_nil h
  have hunknown : fieldsKnown 0 (i :: is) = false := by
    have hid : ¬(1 ≤ i.id.toNat ∧ i.id.toNat ≤ 0) := by omega
    simp only [fieldsKnown, List.all_cons, hid, decide_false, Bool.false_and]
  unfold noParams
  rw [hunknown]
  rfl

end Sys2Proof.Machine
end

section
/-! PROOF. The machine: a step, the reset, malformed requests (spec/01 R4; 12 R170, R174; 95). -/

namespace Sys2Proof.Proofs

open Sys2Proof Sys2Proof.Machine

/-- Settles O1: the two arms of `step`. -/
theorem stepTakesFrontCommand : Obligations.StepTakesFrontCommand := by
  refine ⟨fun c rest s h => ?_, fun s h => ?_⟩
  · unfold step; rw [h]
  · unfold step; rw [h]

/-- Settles O2: the reset columns, field by field. -/
theorem resetState : Obligations.ResetState := by
  refine ⟨State.blank_slots_get _, State.blank_rec _, rfl, rfl, rfl, rfl, rfl, rfl, rfl, rfl, rfl, rfl, rfl, rfl,
    fun p => ?_, rfl, State.blank_poller _, rfl, State.blank_feeds_get _, rfl, rfl, rfl, rfl, rfl⟩
  have hport : State.reset.ports[p] = PortRec.atReset p := State.blank_ports_get _ p
  rw [hport]
  exact ⟨rfl, rfl⟩

/-- Settles O3: each law at the blank state, from the values of the reset columns. -/
theorem invariantsAtReset : Obligations.InvariantsAtReset := by
  have hnorec : ∀ {h : Handle} {a : Ann}, a ∉ State.reset.roster.rec? h := fun {h a} ha => by
    rw [Option.mem_def, show State.reset.roster.rec? h = none from State.blank_rec _ h] at ha
    cases ha
  have hports : ∀ p : Port, State.reset.ports[p] = PortRec.atReset p := State.blank_ports_get _
  refine ⟨⟨fun p => ?_, fun _ _ ha => absurd ha hnorec, (State.blank_attnLevel _).symm⟩, State.refsDistinct_law.blank _,
    State.callsLawful_law.blank _, State.berthsLawful_law.blank _, fun _ _ ha => absurd ha hnorec,
    fun _ _ ha => absurd ha hnorec, ?_, fun _ _ _ ha => absurd ha hnorec, ⟨fun p => ?_, fun d t ht => ?_⟩, fun f => ?_,
    State.profilesLawful_law.blank _, ?_⟩
  · rw [hports]
    exact (State.blank_resolve _ p).symm
  · refine ⟨fun _ _ ha => absurd ha hnorec, fun _ _ _ ha => absurd ha hnorec, ⟨List.nodup_nil, fun h => ?_⟩,
      fun _ ha => absurd ha hnorec⟩
    rw [show State.reset.roster.rec? h = none from State.blank_rec _ h]
    exact ⟨nofun, nofun⟩
  · rw [hports, show State.reset.senses.presence[p] = false by simp [State.reset, State.blank, Pins.atReset]]
    exact PortRec.atReset_lawful p
  · rw [show State.reset.poller d = Poller.atReset from State.blank_poller _ d] at ht
    cases ht
  · rw [show State.reset.feeds[f] = Feed.atReset from State.blank_feeds_get _ f]
    exact Feed.atReset_lawful
  · exact ⟨rfl, rfl⟩

/-- Settles O5: each request reads its parameters first. -/
theorem malformedRequestsRefused : Obligations.MalformedRequestsRefused := by
  intro items s
  refine ⟨fun h => ?_, fun h => ?_, fun h => ?_, fun h => ⟨?_, ?_, ?_, ?_, ?_, ?_⟩, fun h => ?_, fun h => ?_,
    fun h => ⟨?_, ?_, ?_, ?_⟩, fun h => ?_, fun h => ?_, fun h => ⟨?_, ?_, ?_⟩, fun h => ?_, fun h => ?_, fun h => ?_,
    fun h => ?_, fun h => ?_, fun h => ?_, fun h => ?_, fun h => ?_, fun h => ?_, fun h => ?_, fun h => ?_, fun h => ?_,
    fun h => ?_, fun h => ?_, fun h => ?_, fun h => ?_, fun h => ?_, fun h => ?_, fun hne => ?empty⟩
  case empty =>
    have h := noParams_of_ne_nil hne
    refine ⟨?_, ?_, ?_, ?_, ?_, ?_, ?_, ?_, ?_, ?_, ?_, ?_, ?_⟩
    all_goals
      simp only [exec, h,
        execListOccupied, execListAnnounce, execReadPolicy, execLightsOut, execReadWakeProfile, execCallNext,
        execAlertRaise, execAlertClear, execResume, execReadAlert, execTripReset, execReadSummary,
        execReadDigest]
      exact .of_refuse _ _ _
  all_goals
    simp only [exec, h, State.routeRequest,
      execOpenBerth, execAmendBerth, execRetireBerth, execLookupBerth, execWakeCancel, execCallAttend,
      execCallClose, execPortQuery, execReadBerthEvents, execFindOccupant, execAnnounce, execEndAnnounce,
      execCancelAnnounce, execReleaseAnnounce, execLookupAnnounce, execSetPolicy, execSetQuiet,
      execRouteProgressApproach, execRouteProgressArrive, execRouteProgressDepart, execSetWakeProfile,
      execSetButtonWindow, execCallList, execSetAlertConfig, execPortPower, execPortConfig, execSetPortTiming,
      execSetPollMode, execSetPollTimeout, execReadPoll, execConfigureFeed, execUnconfigureFeed, execFeedQuery,
      execSetFeedStall, execSetEventEnables, execAckBerthEvents, execAckCoachEvents, execSetDigest]
    exact .of_refuse _ _ _

end Sys2Proof.Proofs
end

section
/-! SUPPORT. ANNOUNCE, CANCEL_ANNOUNCE, RELEASE_ANNOUNCE and the timers of an announcement (spec/03 R51 to R65; 04 R68 to
R78). -/

namespace Sys2Proof.Machine

open Sys2Proof

/-! ### Expiries -/

theorem Happens.of_eq {o : Answer} {u : State} (h : o = .next u.settle) : Happens o u := h ▸ .of_settle rfl

section

variable {α : Type} {s : State} {f : α → Answer}

theorem unlessLate_late (x : α) : unlessLate ⟨x, true⟩ s f = .next s := rfl

theorem unlessLate_taken (x : α) : unlessLate ⟨x, false⟩ s f = f x := rfl

end

section

variable {s : State} {h : Handle} {f : Ann → Answer} {st : AnnState}

/-- The expiry of a timer that runs in one state of a record, written over the record of the slot. -/
def State.onRecord (s : State) (h : Handle) (st : AnnState) (f : Ann → Answer) : Answer :=
  match s.roster.rec? h with
  | none => .next s
  | some a => if a.state = st then f a else .next s

theorem State.onRecord_idle (hidle : ∀ a ∈ s.roster.rec? h, a.state ≠ st) : s.onRecord h st f = .next s := by
  unfold State.onRecord
  cases hrec : s.roster.rec? h with
  | none => rfl
  | some a => exact if_neg (hidle a hrec)

theorem State.onRecord_taken {a : Ann} (ha : s.roster.rec? h = some a) (hstate : a.state = st) :
    s.onRecord h st f = f a := by
  unfold State.onRecord; rw [ha]; exact if_pos hstate

theorem execLeadInEnd_eq (e : Expiry Handle) : execLeadInEnd e s = unlessLate e s fun h =>
    s.onRecord h .leadIn fun a => .next (s.atDesk fun env => Desk.leadInEnd env h a).settle := rfl

theorem execDurationExpiry_eq (e : Expiry Handle) : execDurationExpiry e s = unlessLate e s fun h =>
    s.onRecord h .playing fun _ => .next (s.atDesk fun env => Desk.endRepetition env h).settle := rfl

theorem execGapExpiry_eq (e : Expiry Handle) : execGapExpiry e s = unlessLate e s fun h =>
    s.onRecord h .gap fun _ => .next (s.atDesk fun env d => (d.update h Ann.requeue).join env h).settle := rfl

/-- A late expiry, or one of a slot whose record has no such timer, changes nothing (logs 10, 13). -/
theorem State.unlessLate_idle {g : Handle → Ann → Answer} {late : Bool}
    (hidle : late = true ∨ ∀ a ∈ s.roster.rec? h, a.state ≠ st) :
    unlessLate ⟨h, late⟩ s (fun h => s.onRecord h st (g h)) = .next s := by
  cases late with
  | true => rfl
  | false =>
    rw [unlessLate_taken]
    exact State.onRecord_idle (hidle.resolve_left Bool.false_ne_true)

end

/-! ### ANNOUNCE -/

/-- The owed set at admission (R52). -/
theorem State.mem_owedSet {s : State} {t : Target} {language : Option (Fin 16)} {p : Port} :
    p ∈ s.owedSet t language ↔ ∃ b, s.slots[p] = some b ∧ (∀ l ∈ language, b.image.language = l) ∧
      t.hits s.ports[p].zone p b.image = true := by
  unfold State.owedSet State.image
  rw [List.mem_filter, Option.any_map, Option.any_eq_true]
  simp only [allPorts, List.mem_finRange, true_and, Bool.and_eq_true, Option.all_eq_true, beq_iff_eq]
  refine exists_congr fun b => and_congr_right fun _ => and_comm.trans (and_congr_left' ?_)
  exact forall_congr' fun l => forall_congr' fun _ => eq_comm

theorem Target.hits_iff {zone : Fin 8} {p : Port} {i : Image} {t : Target} :
    t.hits zone p i = true ↔ match t with
      | .all => True
      | .zones m => m.getLsbD zone.val = true
      | .berths ps => p ∈ ps
      | .stop x => i.stop = some x := by
  cases t <;> simp [Target.hits]

/-- An admission leaves a record, and ANNOUNCE_DONE is set if it is DONE at once (R53, R55). -/
theorem State.Admits.record {s t : State} {h : Handle} {a : Ann} {owed : PortSet} (hadmits : s.Admits t h a owed) :
    ∃ b : Ann, t.roster.rec? h = some b ∧ (b.state = .done → t.events.flag .announceDone = true) := by
  obtain ⟨n, -, -, -, hnone, hsome⟩ := hadmits
  by_cases ho : owed = []
  · obtain ⟨honly, hrec⟩ := hnone ho
    refine ⟨_, hrec, fun _ => ?_⟩
    rw [Events.flag, honly.flags]
    simp [CoachKind.mark, CoachKind.bit]
  · obtain ⟨-, b, hrec, -, hstate⟩ := hsome ho
    refine ⟨b, hrec, fun hdone => ?_⟩
    rw [hdone] at hstate
    exact hstate.elim nofun nofun

theorem State.admissionData_of_rec {t : State} {h : Handle} {b : Ann} (hb : t.roster.rec? h = some b) :
    t.admissionData h = [bytes4 b.number.toNat, byteOf b.admitted, byteOf b.state.code] := by
  unfold State.admissionData; rw [hb]

theorem execAnnounce_takes {items : List Item} {s : State} {q : AnnounceParams} {target : Target} {h : Handle}
    (hitems : announceParams items = some q) (htarget : q.target.judge = some target) (hslot : s.roster.freeSlot = some h) :
    Takes (execAnnounce items s) (s.announce q target h) 0x20#8 fun t => byteOf h.val :: t.admissionData h := by
  simp only [execAnnounce, hitems, htarget, hslot]
  exact .of_accept rfl rfl

/-! ### The end of a playout at its feed -/

theorem feedSource_of_feed {src : Source} {f : FeedIx} (h : src.feed = some f) : feedSource f = some src := by
  cases src <;> simp only [Source.feed, reduceCtorEq, Option.some.injEq] at h <;> subst h <;> rfl

/-- A playout from a feed ends with its joined berths reached, or with nobody (04 R75, R77). -/
theorem State.slotEnds_of_feed {u t : State} {h : Handle} {a : Ann} {f : FeedIx} (hr : u.roster.Lawful)
    (ha : u.roster.rec? h = some a) (hp : a.state = .playing) (hf : a.source.feed = some f) (reach : Bool)
    (ht : (u.endPlayout f reach).SettledFrom t) : u.SlotEnds t h (a.afterPlayout (if reach then a.joined else [])) := by
  have hend : u.endPlayout f reach = u.atDesk fun env => Desk.endPlayoutFrom env a.source reach := by
    unfold State.endPlayout; rw [feedSource_of_feed hf]
  rw [hend] at ht
  exact State.slotEnds_of_endPlayout hr ha hp rfl (Source.exclusive_of_feed hf) reach ht

theorem State.endPlayout_reply (s : State) (f : FeedIx) (reach : Bool) : (s.endPlayout f reach).reply = s.reply := by
  unfold State.endPlayout
  cases feedSource f <;> rfl

/-- A good END frame on an ACTIVE feed (11 R167). -/
theorem State.mediaFrame_end {s : State} {bytes : List Byte} {f : FeedIx}
    (hframe : readFeedFrame bytes = some ⟨f, .endOfItem, []⟩) (hactive : s.feeds[f].state = .active) :
    s.mediaFrame bytes = ((s.mapFeed f fun r => { r with state := .waiting, timer := none }).endPlayout f true).settle := by
  unfold State.mediaFrame State.endTaken
  rw [hframe]
  dsimp only
  rw [if_neg (by rw [hactive]; exact nofun), if_pos hactive]

theorem execStallTimerExpiry_taken {s : State} {f : FeedIx} (htimer : s.feeds[f].timer.isSome = true) :
    execStallTimerExpiry ⟨f, false⟩ s = .next (s.stallFeed f).settle := by
  rw [execStallTimerExpiry, unlessLate_taken, if_pos htimer]

/-! ### A record in its slot -/

theorem Ann.Shaped.requeue {a : Ann} (h : a.Shaped) (hgap : a.state = .gap) :
    Ann.Shaped { a with state := .queued } := by
  have hair : a.onAir = false := by simp [Ann.onAir, hgap]
  have houtcome : ¬a.outcome.isSome = true := fun ho => by
    have := h.outcome.1 ho
    rw [hgap] at this
    cases this
  refine ⟨?_, ?_, ?_, fun ho => absurd ho houtcome, nofun⟩
  · exact h.channel.trans hair
  · exact .inl (h.audience.resolve_right (by rw [hair]; exact nofun))
  · exact .inl (h.joined.resolve_right (by rw [hgap]; exact nofun))

/-! ### The lead-in -/

/-- Eligibility with the berth of the port written out (R69). -/
theorem State.eligible_eq (s : State) (a : Ann) (p : Port) :
    s.eligible a p =
      match s.slots[p] with
      | none => false
      | some b =>
        match b.image.state, a.cls with
        | .awake, _ => true
        | .waking, _ => true
        | .night, .safety => true
        | .night, .driver => s.policy.driverNight
        | .night, .stop => b.image.stop.isSome && decide (b.image.stop = a.stop)
        | .night, .service => false := by
  unfold State.eligible State.image
  cases s.slots[p] with
  | none => rfl
  | some b =>
    dsimp only [Option.map_some, Option.any_some]
    unfold Ann.eligible
    cases b.image.state with
    | awake | waking => rfl
    | night => cases a.cls <;> rfl

/-- Playout start: PLAYING, with the berths that hear the channel and still desire it (R72). -/
theorem Desk.leadInEnd_playout {s : State} {h : Handle} {a : Ann} (ha : s.roster.rec? h = some a) (haudience : a.audience ≠ []) :
    (s.atDesk fun env => Desk.leadInEnd env h a) = { s with roster := s.roster.put h (a.startPlayout s.ports) } := by
  rw [State.atDesk_eq]
  have hdesk : s.deskAfter (fun env => Desk.leadInEnd env h a) =
      { roster := s.roster.put h (a.startPlayout s.ports), coach := s.events.coach } := by
    simp only [State.deskAfter, Desk.leadInEnd, if_neg haudience,
      Desk.update_of_rec (d := { roster := s.roster, coach := s.events.coach }) ha]
  rw [hdesk]

theorem Desk.leadInEnd_empty {env : State} {h : Handle} {a : Ann} (haudience : a.audience = []) :
    Desk.leadInEnd env h a = fun d => d.endRepetition env h := by
  funext d; exact if_pos haudience

end Sys2Proof.Machine
end

section
/-! PROOF. The announcement requests and timers (spec/03 R51 to R65; 04 R68 to R78). -/

namespace Sys2Proof.Proofs

open Sys2Proof Sys2Proof.Machine

/-- Settles O28: the checks of R51, and the admission into the lowest FREE slot. -/
theorem announce : Obligations.Announce := by
  intro items s q hitems
  refine ⟨fun htarget => ?_, fun target htarget => ⟨fun hfull => ?_, fun h hh hfree hlowest => ?_⟩⟩
  · simp only [exec, execAnnounce, hitems, htarget]; exact .of_refuse _ _ _
  · simp only [exec, execAnnounce, hitems, htarget, Roster.freeSlot_none hfull]; exact .of_refuse _ _ _
  · obtain ⟨t, hexec, ht, hreply⟩ := execAnnounce_takes hitems htarget (Roster.freeSlot_eq hh hfree hlowest)
    have hadmits : s.Admits t h (q.ann target []) (s.owedSet target q.language) :=
      State.admits_of_enroll (fun x hx => by rw [hfree] at hx; cases hx) ht
    obtain ⟨b, hb, hdone⟩ := hadmits.record
    refine ⟨t, q.ann target [], s.owedSet target q.language, hexec, s.owedSet_nodup _ _, fun p => ?_,
      ⟨rfl, rfl, rfl, rfl, rfl, rfl, rfl, rfl, rfl, rfl, rfl⟩, hadmits, b, hb, hdone, ?_⟩
    · simp only [State.mem_owedSet, Target.hits_iff] <;> rfl
    · simp only [hreply, State.admissionData_of_rec hb]

/-- Settles O30: R64 ends the record with CANCELLED, R65 frees the slot of a DONE one. -/
theorem cancelAndRelease : Obligations.CancelAndRelease := by
  intro items s h hitems
  refine ⟨fun hfree => ⟨?_, ?_⟩, fun a ha => ⟨fun hdone => ?_, fun hlive => ?_, fun hlive => ?_, fun hdone => ?_⟩⟩
  · simp only [exec, execCancelAnnounce, hitems, hfree]; exact .of_refuse _ _ _
  · simp only [exec, execReleaseAnnounce, hitems, hfree]; exact .of_refuse _ _ _
  · have hdead : ¬a.live = true := by simp [Ann.live, hdone]
    simp only [exec, execCancelAnnounce, hitems, ha, if_neg hdead]; exact .of_refuse _ _ _
  · have hlive : a.live = true := by simp [Ann.live, hlive]
    have htakes : Takes (exec (.cancelAnnounce items) s) (s.atDesk fun env d => (d.finish .cancelled h).scan env) 0x22#8
        fun _ => [] := by
      simp only [exec, execCancelAnnounce, hitems, ha, if_pos hlive]; exact .of_accept rfl rfl
    obtain ⟨t, hexec, ht, hreply⟩ := htakes
    exact ⟨t, hexec, State.slotEnds_of_finish .cancelled ha ht, hreply⟩
  · have hlive : a.live = true := by simp [Ann.live, hlive]
    simp only [exec, execReleaseAnnounce, hitems, ha, if_pos hlive]; exact .of_refuse _ _ _
  · have hdead : ¬a.live = true := by simp [Ann.live, hdone]
    simp only [exec, execReleaseAnnounce, hitems, ha, if_neg hdead]; exact .of_accept rfl rfl

/-- Settles O31: the three ends of a playout, each by the accounting on the record PLAYING. -/
theorem playoutEnds : Obligations.PlayoutEnds := by
  refine ⟨fun s h late hidle => (execDurationExpiry_eq _).trans (State.unlessLate_idle hidle),
    fun s h a ha hplaying => ⟨?_, fun hr f hf hactive => ⟨fun bytes hframe => ?_,
    fun htimer => ?_⟩⟩⟩
  · have hexec : exec (.durationExpiry ⟨h, false⟩) s = .next (s.atDesk fun env => Desk.endRepetition env h).settle :=
      State.onRecord_taken ha hplaying
    obtain ⟨t, hexec, ht, hreply⟩ := Happens.of_eq hexec
    exact ⟨t, hexec, State.slotEnds_of_endRepetition (fun _ d => d) ha (by rw [Roster.put_self ha]; rfl) ht, hreply⟩
  · obtain ⟨t, hexec, ht, hreply⟩ := Happens.of_eq (congrArg Host.Outcome.next (State.mediaFrame_end hframe hactive))
    exact ⟨t, hexec, hreply.trans (State.endPlayout_reply _ f true), State.slotEnds_of_feed
      (u := s.mapFeed f fun r => { r with state := .waiting, timer := none }) hr ha hplaying hf true ht⟩
  · obtain ⟨t, hexec, ht, hreply⟩ := Happens.of_eq (execStallTimerExpiry_taken htimer)
    exact ⟨t, hexec, hreply.trans (State.endPlayout_reply _ f false), State.slotEnds_of_feed
      (u := (s.mapFeed f fun r => { r with state := .stalled, timer := none }).flagCoach .feedStalled) hr ha hplaying hf
      false ht⟩

/-- Settles O32: the record, QUEUED where it stands, joins. -/
theorem gapEnds : Obligations.GapEnds := by
  refine ⟨fun s h late hidle => (execGapExpiry_eq _).trans (State.unlessLate_idle hidle), fun s h a ha hgap hshaped => ?_⟩
  intro q r
  have hexec : exec (.gapExpiry ⟨h, false⟩) s =
      .next (s.atDesk fun env d => (d.update h Ann.requeue).join env h).settle := State.onRecord_taken ha hgap
  have hdesk : s.deskAfter (fun env d => (d.update h Ann.requeue).join env h) =
      Desk.join s h { roster := r, coach := s.events.coach } := by
    simp only [State.deskAfter, Desk.update_of_rec (d := { roster := s.roster, coach := s.events.coach }) ha]
    rfl
  obtain ⟨t, hexec, ht, hreply⟩ := Happens.of_eq hexec
  obtain ⟨hjoins, hothers, horder, hcounter, b, hb, hkept, hstate⟩ := State.joins_of_settled (r := s.roster.put h q) (q := q)
    (by rw [Roster.rec_put, if_pos rfl]) rfl (fun g hg => by rw [Roster.rec_put, if_neg hg])
    (fun x hx => by rw [ha] at hx; cases hx; simp [Ann.onAir, hgap]) (fun ho => ho.put ha q) (hshaped.requeue hgap) hdesk ht
  exact ⟨t, b, hexec, hjoins, hreply, hb, hkept, hstate, hothers, horder, hcounter⟩

/-- Settles O33: the departures, the grant into LEAD_IN and the two ends of a lead-in. -/
theorem leadIn : Obligations.LeadIn := by
  refine ⟨fun r ports => ⟨rfl, rfl, fun h => ?_⟩,
    fun s h late hidle => (execLeadInEnd_eq _).trans (State.unlessLate_idle hidle), fun s c a => ?_,
    fun s h a ha hleadIn => ⟨fun haudience c hc => ?_, fun haudience hjoined => ?_⟩⟩
  · rw [Roster.depart_rec]; rfl
  · have heligible : s.eligible a = _ := funext fun p => s.eligible_eq a p
    simp only [Ann.startLeadIn, heligible]
    rfl
  · have hexec : exec (.leadInEnd ⟨h, false⟩) s = .next (s.atDesk fun env => Desk.leadInEnd env h a).settle :=
      State.onRecord_taken ha hleadIn
    rw [hexec]
    refine .of_settle ((Desk.leadInEnd_playout ha haudience).trans ?_)
    rw [Ann.startPlayout, hc]
    rfl
  · have hexec : exec (.leadInEnd ⟨h, false⟩) s = .next (s.atDesk fun env => Desk.leadInEnd env h a).settle :=
      State.onRecord_taken ha hleadIn
    simp only [Desk.leadInEnd_empty haudience] at hexec
    obtain ⟨t, hexec, ht, hreply⟩ := Happens.of_eq hexec
    have hends : s.SlotEnds t h (a.afterPlayout a.joined) :=
      State.slotEnds_of_endRepetition (fun _ d => d) ha (by rw [Roster.put_self ha]; rfl) ht
    rw [hjoined] at hends
    exact ⟨t, hexec, hends, hreply⟩

end Sys2Proof.Proofs
end

section
/-! SUPPORT. The victim of R60 in terms of rank (spec/03 R50, R60). -/

namespace Sys2Proof.Machine

open Sys2Proof

/-! ### Rank as an order -/

section

variable {r : Roster} {g h v : Handle}

theorem Roster.Outranks.asymm (hgh : r.Outranks g h) : ¬r.Outranks h g := by
  obtain ⟨a, b, ha, hb, hab⟩ := hgh
  rintro ⟨b', a', hb', ha', hba⟩
  rw [ha] at ha'; cases ha'
  rw [hb] at hb'; cases hb'
  rcases hab with hlt | ⟨hcls, hlt⟩
  · rcases hba with hgt | ⟨hcls, -⟩
    · omega
    · rw [hcls] at hlt; omega
  · rcases hba with hgt | ⟨-, hgt⟩
    · rw [hcls] at hgt; omega
    · omega

theorem Roster.Outranks.ne (hgh : r.Outranks g h) : g ≠ h := by
  rintro rfl; exact hgh.asymm hgh

/-- The rank lists each slot once. -/
theorem Roster.Ordered.waitList_nodup (ho : r.Ordered) : r.waitList.Nodup :=
  (Roster.waitList_ranked ho).imp Roster.Outranks.ne

/-- In the order of rank, a slot ranks below another exactly if the other outranks it. -/
theorem Roster.Ordered.ranksBelow_iff (ho : r.Ordered) : r.ranksBelow h v = true ↔ r.Outranks h v := by
  have hmem : ∀ {k : Handle} {a : Ann}, r.rec? k = some a → k ∈ r.ranked := fun {k a} ha =>
    Roster.mem_ranked.2 ⟨(ho.2 k).2 (by rw [ha]; rfl), by rw [ha]; rfl⟩
  have hpair := Roster.ranked_pairwise ho
  unfold Roster.ranksBelow
  rw [List.contains_iff_mem]
  by_cases hh : h ∈ r.ranked
  · obtain ⟨above, below, hsplit⟩ := List.append_of_mem hh
    rw [hsplit] at hpair
    obtain ⟨-, hrest, habove⟩ := List.pairwise_append.1 hpair
    have hdrop : (r.ranked.dropWhile (· != h)).drop 1 = below := by
      rw [hsplit, List.dropWhile_append_of_pos fun k hk => bne_iff_ne.2 (habove k hk h List.mem_cons_self).ne]
      simp
    rw [hdrop]
    refine ⟨fun hv => (List.pairwise_cons.1 hrest).1 v hv, fun hout => ?_⟩
    obtain ⟨_, b, -, hb, -⟩ := id hout
    have hv := hmem hb
    rw [hsplit, List.mem_append, List.mem_cons] at hv
    rcases hv with hv | rfl | hv
    · exact absurd (habove v hv h List.mem_cons_self) hout.asymm
    · exact absurd rfl hout.ne
    · exact hv
  · have hdrop : r.ranked.dropWhile (· != h) = [] :=
      List.dropWhile_eq_nil_iff.2 fun k hk => bne_iff_ne.2 fun e => hh (e ▸ hk)
    rw [hdrop]
    refine ⟨nofun, ?_⟩
    rintro ⟨a, _, ha, -, -⟩
    exact absurd (hmem ha) hh

/-- The lowest-ranked record on the air (R60). -/
theorem Roster.Ordered.lowestOnAir_eq_some (ho : r.Ordered) :
    r.lowestOnAir = some v ↔ (∃ b, r.rec? v = some b ∧ b.onAir = true) ∧
      ∀ g : Handle, g ≠ v → ∀ b ∈ r.rec? g, b.onAir = true → r.Outranks g v := by
  have hmem : ∀ {k : Handle}, k ∈ r.ranked.filter (r.test Ann.onAir) ↔ ∃ a, r.rec? k = some a ∧ a.onAir = true := by
    intro k
    rw [List.mem_filter, Roster.test_eq_true]
    refine and_iff_right_of_imp ?_
    rintro ⟨a, ha, -⟩
    exact Roster.mem_ranked.2 ⟨(ho.2 k).2 (by rw [ha]; rfl), by rw [ha]; rfl⟩
  have hpair : (r.ranked.filter (r.test Ann.onAir)).Pairwise r.Outranks := (Roster.ranked_pairwise ho).filter _
  have hlast : ∀ {w : Handle}, r.lowestOnAir = some w → (∃ b, r.rec? w = some b ∧ b.onAir = true) ∧
      ∀ g : Handle, g ≠ w → ∀ b ∈ r.rec? g, b.onAir = true → r.Outranks g w := by
    intro w hw
    obtain ⟨init, hsplit⟩ := List.getLast?_eq_some_iff.1 hw
    refine ⟨hmem.1 (List.mem_of_getLast? hw), fun g hg b hb hair => ?_⟩
    have hin := hmem.2 ⟨b, hb, hair⟩
    rw [hsplit, List.mem_append, List.mem_singleton] at hin
    rw [hsplit] at hpair
    exact (List.pairwise_append.1 hpair).2.2 g (hin.resolve_right hg) w List.mem_cons_self
  refine ⟨hlast, fun ⟨⟨b, hb, hair⟩, hothers⟩ => ?_⟩
  cases hw : r.lowestOnAir with
  | none => exact absurd (hmem.2 ⟨b, hb, hair⟩) (by rw [List.getLast?_eq_none_iff.1 hw]; exact List.not_mem_nil)
  | some w =>
    obtain ⟨⟨c, hc, hcair⟩, hout⟩ := hlast hw
    by_cases hvw : v = w
    · rw [hvw]
    · exact absurd (hout v hvw b hb hair) (hothers w (Ne.symm hvw) c hc hcair).asymm

end

/-! ### The victim (R60) -/

section

variable {r : Roster} {h : Handle} {a : Ann} (ha : r.rec? h = some a)
include ha

theorem Roster.victim_of_sourceFree (hfree : r.SourceFree a.source) :
    r.victim h = r.lowestOnAir.filter (r.ranksBelow h) := by
  unfold Roster.victim; rw [ha]; dsimp only; rw [if_pos (Roster.sourceFree_iff.2 hfree)]

/-- The holder of the exclusive source is the candidate. -/
theorem Roster.victim_of_holder (hr : r.Lawful) (hexclusive : a.source.exclusive = true) {g : Handle} {b : Ann}
    (hb : r.rec? g = some b) (hair : b.onAir = true) (hsource : b.source = a.source) :
    r.victim h = (some g).filter (r.ranksBelow h) := by
  have hheld : ¬r.sourceFree a.source = true := fun hfree =>
    Roster.sourceFree_iff.1 hfree hexclusive g b hb hair hsource
  have hholder : r.sourceHolder a.source = some g := by
    unfold Roster.sourceHolder
    cases hfind : allHandles.find? _ with
    | none =>
      exact absurd (Roster.test_eq_true.2 ⟨b, hb, by simp [hair, hsource]⟩) (List.find?_eq_none.1 hfind g (List.mem_finRange g))
    | some k =>
      obtain ⟨c, hc, hcheck⟩ := Roster.test_eq_true.1 (List.find?_some hfind)
      simp only [Bool.and_eq_true, decide_eq_true_eq] at hcheck
      exact congrArg some (hr.exclusive k g c hc b hb hcheck.1 hair
        (.inr ⟨hcheck.2.trans hsource.symm, hcheck.2 ▸ hexclusive⟩))
  unfold Roster.victim
  rw [ha]
  dsimp only
  rw [if_neg hheld, hholder]

end

/-! ### The join (R58, R60, R61) -/

section

variable {env : State} {d : Desk} {h : Handle}

theorem Desk.join_granted (hserved : ∀ b ∈ (d.scan env).roster.rec? h, b.waits = false) : d.join env h = d.scan env := by
  have htest : ¬(d.scan env).roster.test Ann.waits h = true := fun htest => by
    obtain ⟨b, hb, hwaits⟩ := Roster.test_eq_true.1 htest
    rw [hserved b hb] at hwaits
    cases hwaits
  unfold Desk.join
  exact if_neg htest

theorem Desk.join_waits (hwaits : ∃ b ∈ (d.scan env).roster.rec? h, b.waits = true) :
    d.join env h = (match (d.scan env).roster.victim h with
      | some v => (((d.scan env).update v Ann.hold).grant env h).scan env
      | none => d.scan env) := by
  unfold Desk.join
  exact if_pos (Roster.test_eq_true.2 hwaits)

/-- What the victim gives up is granted: its channel at least is FREE then (R61). -/
theorem Desk.preempt_granted {v : Handle} {a b : Ann} (hr : d.roster.Lawful) (hb : d.roster.rec? v = some b)
    (hair : b.onAir = true) (ha : d.roster.rec? h = some a) (hwaits : a.waits = true) :
    (d.preempt v b).Granted env h ((d.preempt v b).grant env h) := by
  obtain ⟨c, hc⟩ := Option.isSome_iff_exists.1 ((hr.shaped v b hb).channel.trans hair)
  have hlowest : ∃ k, (d.preempt v b).roster.LowestFree k := Roster.lowestFree_of (k := c) fun g x hx hxair hxc => by
    rw [Option.mem_def, Desk.preempt_rec] at hx
    split at hx
    · cases hx; rw [Ann.hold_not_onAir] at hxair; cases hxair
    · next hg => exact hg (hr.exclusive g v x hx b hb hxair hair (.inl (hxc.trans hc.symm)))
  obtain ⟨k, hk⟩ := hlowest
  refine Desk.grant_granted env (a := a) ?_ (Roster.freeChannel_eq_some.2 hk)
  rw [Desk.preempt_rec, if_neg ?_, ha]
  rintro rfl
  rw [ha] at hb; cases hb
  rw [Ann.not_onAir_of_waits hwaits] at hair
  cases hair

end

end Sys2Proof.Machine
end

section
/-! PROOF. The Channel Allocator (spec/03 R58, R60, R61). -/

namespace Sys2Proof.Proofs

open Sys2Proof Sys2Proof.Machine

/-- Settles O34: the scan serves the wait list in rank order, a join preempts at most its victim, and the victim is the
candidate of R60 if it ranks below. -/
theorem allocatorRules : Obligations.AllocatorRules := by
  refine ⟨fun env d hr => ⟨Desk.scan_served env hr.ordered, d.roster.waitList, hr.ordered.waitList_nodup, fun h => ?_,
    Roster.waitList_ranked hr.ordered, Desk.scan_serves env d⟩, fun env d h a hr ha hqueued => ?_, fun r h a hr ha hwaits => ?_⟩
  · rw [Roster.mem_waitList, and_iff_right_of_imp]
    · rfl
    · rintro ⟨a, ha, -⟩
      exact (hr.ordered.2 h).2 (by rw [ha]; rfl)
  · have hscan : (d.scan env).roster.Lawful := (Desk.scan_steps env d).keeps (fun _ _ => Roster.Step.lawful) hr
    refine ⟨Desk.join_granted, fun hwaits hvictim => ?_, fun hwaits v hvictim => ?_, fun hserved => ?_⟩
    · rw [Desk.join_waits hwaits, hvictim]
    · obtain ⟨b, hb, hair⟩ := Roster.victim_onAir hvictim
      obtain ⟨c, hc, hcwaits⟩ := id hwaits
      refine ⟨b, _, hb, hair, Desk.preempt_granted hscan hb hair hc hcwaits, ?_⟩
      rw [Desk.join_waits hwaits, hvictim, ← Desk.update_hold_eq hb]
    · exact Desk.join_joined env hr.shaped hr.exclusive hr.ordered ha (by simp [Ann.waits, hqueued]) hserved
  · refine ⟨fun g b hexclusive hb hair hsource => ?_, fun hfree => ?_⟩
    · rw [Roster.victim_of_holder ha hr hexclusive hb hair hsource, Option.filter_some]
      refine ⟨fun hout => if_pos (hr.ordered.ranksBelow_iff.2 hout), fun hout => if_neg fun hbelow => ?_⟩
      exact hout.asymm (hr.ordered.ranksBelow_iff.1 hbelow)
    · have hsource : r.SourceFree a.source := fun hexclusive =>
        hfree.resolve_left (by rw [hexclusive]; exact nofun)
      rw [Roster.victim_of_sourceFree ha hsource]
      refine ⟨fun v hv => ?_, fun hnone g b hb hair hlowest hout => ?_⟩
      · obtain ⟨hlow, hbelow⟩ := Option.filter_eq_some_iff.1 hv
        exact ⟨hr.ordered.ranksBelow_iff.1 hbelow, hr.ordered.lowestOnAir_eq_some.1 hlow⟩
      · rw [hr.ordered.lowestOnAir_eq_some.2 ⟨⟨b, hb, hair⟩, hlowest⟩, Option.filter_some,
          if_pos (hr.ordered.ranksBelow_iff.2 hout)] at hnone
        cases hnone

end Sys2Proof.Proofs
end

section
/-! SUPPORT. Night policy, wake calls and their timers (spec/05 R87 to R93; 06 R101 to R108). -/

namespace Sys2Proof.Machine

open Sys2Proof

/-! ### The expiry of an inactivity timer (05 R92) -/

/-- The run condition, taken apart (05 R91). -/
theorem Image.runs_iff {alert : AlertState} {i : Image} :
    i.runs alert = true ↔ i.state = .awake ∧ i.idle = false ∧ alert = .clear := by
  simp only [Image.runs, Bool.and_eq_true, decide_eq_true_eq, Bool.not_eq_true', and_assoc]

/-- A RUNNING timer runs on a record that is AWAKE and not idle. -/
theorem Berth.Lawful.awake_of_timer {m : QuietMode} {al : AlertState} {b : Berth} (hb : b.Lawful m al)
    (htimer : b.timer.isSome = true) : b.image.state = .awake ∧ b.image.idle = false := by
  have hruns := hb.timer.symm.trans htimer
  obtain ⟨hawake, hidle, -⟩ := Image.runs_iff.1 hruns
  exact ⟨hawake, hidle⟩

/-- The expiry in DAY: one claim to idle, and the timer STOPPED. -/
theorem Berth.claim_expire_day {b : Berth} (hidle : b.image.idle = false) (alert : AlertState) (load : Reload) :
    b.claim alert load false (Image.expire .day) =
      { b with image := { b.image with idle := true, generation := b.image.generation + 1 }, timer := none } := by
  have hadvance : b.image.advance (Image.expire .day b.image) =
      { b.image with idle := true, generation := b.image.generation + 1 } := by
    refine Image.advance_of_ne fun hsame => ?_
    have hset : true = b.image.idle := congrArg Image.idle hsame
    rw [hidle] at hset
    cases hset
  have hstops : ({ b.image with idle := true, generation := b.image.generation + 1 } : Image).runs alert = false := by
    refine Bool.eq_false_iff.2 fun hruns => ?_
    exact absurd (Image.runs_iff.1 hruns).2.1 nofun
  simp only [Berth.claim, hadvance, hstops, nextTimer_not_running]

/-- The expiry in QUIET: one claim to NIGHT. -/
theorem Berth.claim_expire_quiet {b : Berth} (hawake : b.image.state = .awake) (hidle : b.image.idle = false)
    (alert : AlertState) (load : Reload) :
    b.claim alert load false (Image.expire .quiet) =
      { b with image := { b.image with state := .night, generation := b.image.generation + 1 }, timer := none } := by
  rw [Berth.claim_toNight (f := Image.expire .quiet) alert load false hawake rfl]
  simp only [Berth.asleep, hidle]

/-! ### The start of a ringing call (06 R103, R104) -/

/-- RINGING_1 on an ARMED berth: WAKING with one generation step, its window cancelled, its timer STOPPED, its ramp from the
active profile. -/
theorem Berth.startRinging_eq {b : Berth} (harmed : b.image.wake = .armed) (alert : AlertState) (load : Reload)
    (profile : Profile) :
    b.startRinging alert load profile =
      { image := { b.image with
          wake := .ringing1, state := .waking, idle := false, generation := b.image.generation + 1 }
        timer := none, button := .idle
        ramp := some { gain := profile.startGain, stepMs := profile.stepMs, answerS := profile.answerS } } := by
  have hadvance : b.image.advance b.image.startRinging =
      { b.image with wake := .ringing1, state := .waking, idle := false, generation := b.image.generation + 1 } := by
    refine Image.advance_of_ne fun hsame => ?_
    have hrings : WakeStatus.ringing1 = b.image.wake := congrArg Image.wake hsame
    rw [harmed] at hrings
    cases hrings
  have hstops : b.image.startRinging.runs alert = false := rfl
  simp only [Berth.startRinging, Berth.claim, Image.advance_runs, hstops, nextTimer_not_running]
  rw [hadvance]
  rfl

/-- Berths that a stop or an approach starts. -/
theorem State.ringWhere_eq (s : State) {f : Image → Bool} (hf : ∀ i, f i = true → i.wake = .armed) :
    s.ringWhere f = s.putSlots (s.slots.map (Option.map fun b => if f b.image then
      { image := { b.image with
          wake := .ringing1, state := .waking, idle := false, generation := b.image.generation + 1 }
        timer := none, button := .idle
        ramp := some { gain := s.wake.active.startGain, stepMs := s.wake.active.stepMs
                       answerS := s.wake.active.answerS } } else b)) := by
  refine (State.mapBerths_const s _).trans (congrArg s.putSlots (Vector.map_option_congr fun p b _ => ?_))
  by_cases hstarts : f b.image = true
  · rw [if_pos hstarts, if_pos hstarts, Berth.startRinging_eq (hf _ hstarts)]
  · rw [if_neg hstarts, if_neg hstarts]

theorem Image.armed_of_armedFor {stop : Nat} {i : Image} (h : i.armedFor stop = true) : i.wake = .armed := by
  simp only [Image.armedFor, Bool.and_eq_true, decide_eq_true_eq] at h
  exact h.2

theorem Image.armed_of_dueAt {stop minutes : Nat} {i : Image} (h : i.dueAt stop minutes = true) : i.wake = .armed :=
  Image.armed_of_armedFor (Bool.and_eq_true_iff.1 h).1

/-! ### The end of ringing calls at a departure (06 R106) -/

theorem State.departRinging_eq {s : State} (hs : s.BerthsLawful) (stop : Nat) :
    s.departRinging stop = s.putSlots (s.slots.map (Option.map fun b => if b.image.ringsFor stop then { b with
      image := { b.image with wake := .unanswered, state := .awake, generation := b.image.generation + 1 }
      timer := if s.alert.state = .clear then some s.policy.load else none
      ramp := none } else b)) := by
  refine (State.mapBerths_const s _).trans (congrArg s.putSlots (Vector.map_option_congr fun p b hb => ?_))
  by_cases hends : b.image.ringsFor stop = true
  · have hberth := hs p b hb
    rw [if_pos hends, if_pos hends, Berth.endRinging_eq hberth (hberth.waking.2 (Bool.and_eq_true_iff.1 hends).2)]
  · rw [if_neg hends, if_neg hends]

/-! ### Flags on a set of ports -/

theorem State.matching_eq (s : State) (f : Image → Bool) :
    s.matching f = allPorts.filter fun p => (s.slots[p]).any fun b => f b.image := s.portsWhere_eq f

theorem State.matching_contains (s : State) (f : Image → Bool) (p : Port) :
    (s.matching f).contains p = (s.slots[p]).any fun b => f b.image := by
  rw [State.matching_eq, Bool.eq_iff_iff, List.contains_iff_mem, List.mem_filter]
  exact and_iff_right (List.mem_finRange p)

/-- A flag set on the ports that pass a test. -/
theorem State.flagPorts_eq {s : State} {k : BerthKind} {ps : PortSet} {g : Port → Bool} (hg : ∀ p, ps.contains p = g p) :
    s.flagPorts k ps = { s with
      ports := Vector.ofFn fun p : Port =>
        if g p then { s.ports[p] with flags := s.ports[p].flags ||| k.mark } else s.ports[p] } := by
  unfold State.flagPorts
  simp only [hg]
  rfl

theorem State.flagPorts_with (s : State) (k : BerthKind) (ps : PortSet) :
    s.flagPorts k ps = { s with ports := (s.flagPorts k ps).ports } := by
  unfold State.flagPorts; rfl

theorem State.flagPorts_get (s : State) (k : BerthKind) (ps : PortSet) (p : Port) :
    (s.flagPorts k ps).ports[p] = if ps.contains p then s.ports[p].setFlag k else s.ports[p] := by
  simp [State.flagPorts]

/-- Two flags set one after the other. -/
theorem State.flagPorts_flagPorts {s : State} {k m : BerthKind} {ps qs : PortSet} {g e : Port → Bool}
    (hg : ∀ p, ps.contains p = g p) (he : ∀ p, qs.contains p = e p) :
    (s.flagPorts k ps).flagPorts m qs = { s with
      ports := Vector.ofFn fun p : Port => { s.ports[p] with
        flags := s.ports[p].flags ||| ((if g p then k.mark else 0#10) ||| if e p then m.mark else 0#10) } } := by
  have hports : ((s.flagPorts k ps).flagPorts m qs).ports = Vector.ofFn fun p : Port => { s.ports[p] with
      flags := s.ports[p].flags ||| ((if g p then k.mark else 0#10) ||| if e p then m.mark else 0#10) } := by
    refine Vector.ext fun i hi => ?_
    have hget := State.flagPorts_get (s.flagPorts k ps) m qs ⟨i, hi⟩
    rw [State.flagPorts_get s k ps ⟨i, hi⟩, hg, he] at hget
    refine hget.trans ?_
    rw [Vector.getElem_ofFn]
    cases g ⟨i, hi⟩ <;> cases e ⟨i, hi⟩ <;> simp [PortRec.setFlag, BitVec.or_assoc]
  rw [State.flagPorts_with (s.flagPorts k ps) m qs, hports, State.flagPorts_with s k ps]

/-! ### Profiles (06 R101, R102) -/

theorem State.anyRamp_eq_false (s : State) : s.anyRamp = false ↔ ∀ q : Port, ∀ b ∈ s.slots[q], b.ramp = none := by
  rw [Bool.eq_false_iff, ne_eq, State.anyRamp_iff]
  refine ⟨fun h q b hb => ?_, fun h ⟨q, b, hb, hramp⟩ => ?_⟩
  · exact Option.not_isSome_iff_eq_none.1 fun hramp => h ⟨q, b, hb, hramp⟩
  · rw [h q b hb] at hramp; cases hramp

theorem State.copyIfIdle_copies {s : State} (hwaits : s.wake.waiting = true) (hidle : ∀ q : Port, ∀ b ∈ s.slots[q], b.ramp = none) :
    s.copyIfIdle = { s with wake := { active := s.wake.pending, pending := s.wake.pending, waiting := false } } := by
  unfold State.copyIfIdle
  rw [hwaits, s.anyRamp_eq_false.2 hidle]
  rfl

theorem State.copyIfIdle_waits {s : State} (h : ¬(s.wake.waiting = true ∧ ∀ q : Port, ∀ b ∈ s.slots[q], b.ramp = none)) :
    s.copyIfIdle = s := by
  unfold State.copyIfIdle
  refine if_neg fun hcopies => h ?_
  simp only [Bool.and_eq_true, Bool.not_eq_true'] at hcopies
  exact ⟨hcopies.1, s.anyRamp_eq_false.1 hcopies.2⟩

theorem flagByte_true : flagByte true = [1#8] := by decide

theorem flagByte_false : flagByte false = [0#8] := by decide

theorem State.settle_wake (u : State) : u.settle.wake = u.wake :=
  u.settle_settledFrom.field State.wake fun _ _ _ _ => rfl

/-- The profile data of a settled state. -/
theorem State.settle_profileData (u : State) :
    u.settle.profileData = [u.wake.active.bytes, u.wake.pending.bytes, flagByte u.wake.waiting] := by
  unfold State.profileData
  rw [State.settle_wake]

/-! ### The timers of a ramp (06 R103, R107, R108) -/

section

variable {s : State} {p : Port}

theorem State.ringingStatus_idle (hidle : ∀ b ∈ s.slots[p], b.ramp = none) : s.ringingStatus p = none := by
  unfold State.ringingStatus
  cases hslot : s.slots[p] with
  | none => rfl
  | some b => rw [Option.bind_some, hidle b hslot]; rfl

theorem State.ringingStatus_of_ramp {b : Berth} {r : Ramp} (hslot : s.slots[p] = some b) (hramp : b.ramp = some r) :
    s.ringingStatus p = some b.image.wake := by
  unfold State.ringingStatus; rw [hslot, Option.bind_some, hramp]; rfl

theorem execStage1Expiry_other {late : Bool} (h : late = true ∨ s.ringingStatus p ≠ some .ringing1) :
    execStage1Expiry ⟨p, late⟩ s = .next s := by
  cases late with
  | true => rfl
  | false => exact if_neg (h.resolve_left Bool.false_ne_true)

theorem execStage2Expiry_other {late : Bool} (h : late = true ∨ s.ringingStatus p ≠ some .ringing2) :
    execStage2Expiry ⟨p, late⟩ s = .next s := by
  cases late with
  | true => rfl
  | false => exact if_neg (h.resolve_left Bool.false_ne_true)

theorem execStepBoundary_idle {late : Bool} (h : late = true ∨ ∀ b ∈ s.slots[p], b.ramp = none) :
    execStepBoundary ⟨p, late⟩ s = .next s := by
  cases late with
  | true => rfl
  | false =>
    refine if_neg ?_
    have hidle := h.resolve_left Bool.false_ne_true
    dsimp only
    cases hslot : s.slots[p] with
    | none => exact Bool.false_ne_true
    | some b => rw [Option.bind_some, hidle b hslot]; exact Bool.false_ne_true

/-- A step boundary changes no record, so no walk starts. -/
theorem State.stepRamp_eq {b : Berth} {r : Ramp} (hslot : s.slots[p] = some b) (hramp : b.ramp = some r) :
    s.stepRamp p = { s with
      wake := s.wake.copyWaiting
      slots := s.slots.set p.val (some { b with ramp := some (r.step s.wake.copyWaiting.active b.image.wake) }) } := by
  unfold State.stepRamp
  dsimp only
  rw [State.mapBerth_of_some (s := { s with wake := s.wake.copyWaiting }) hslot, hramp]
  refine State.putSlots_same fun q => ?_
  rw [Vector.set_get_eq]
  by_cases hq : q = p
  · rw [if_pos hq, hq]
    exact (congrArg (Option.map Berth.image) hslot).symm
  · rw [if_neg hq]

end

/-- RINGING_2: one generation step; the ramp keeps its gain and its timers are loaded afresh. -/
theorem Berth.escalate_eq {m : QuietMode} {al : AlertState} {b : Berth} (hb : b.Lawful m al) {r : Ramp}
    (hramp : b.ramp = some r) (hwake : b.image.wake = .ringing1) (load : Reload) (profile : Profile) :
    b.escalate al load profile = { b with
      image := { b.image with wake := .ringing2, generation := b.image.generation + 1 }
      ramp := some { gain := r.gain, stepMs := profile.stepMs, answerS := profile.answerS } } := by
  have hadvance : b.image.advance b.image.escalate =
      { b.image with wake := .ringing2, generation := b.image.generation + 1 } := by
    refine Image.advance_of_ne fun hsame => ?_
    have hrings : WakeStatus.ringing2 = b.image.wake := congrArg Image.wake hsame
    rw [hwake] at hrings
    cases hrings
  have hruns : b.image.escalate.runs al = b.image.runs al := rfl
  simp only [Berth.escalate, Berth.claim, Image.advance_runs, hruns, hb.nextTimer_same]
  rw [hadvance, hramp]
  rfl

end Sys2Proof.Machine
end

section
/-! PROOF. Night policy, wake profiles and wake timers (spec/05 R87 to R93; 06 R101 to R108). -/

namespace Sys2Proof.Proofs

open Sys2Proof Sys2Proof.Machine

/-- Settles O35: the settings named take their values, and the data reads the settled state. -/
theorem setPolicy : Obligations.SetPolicy := by
  intro items s c hitems p
  simp only [exec, execSetPolicy, hitems]
  exact .of_accept rfl rfl

/-- Settles O36: it answers the settings, and refuses any item. -/
theorem readPolicy : Obligations.ReadPolicy := by
  intro items s
  by_cases hempty : items = []
  · rw [if_pos hempty]
    subst hempty
    exact .of_answer 0x31#8 State.policyData s
  · rw [if_neg hempty]
    simp only [exec, execReadPolicy, noParams_of_ne_nil hempty]
    exact .of_refuse _ _ _

/-- Settles O38: a RUNNING timer stands on an AWAKE record that is not idle, so the expiry is one claim. -/
theorem inactivityExpires : Obligations.InactivityExpires := by
  refine fun s p hs => ⟨fun late hidle => ?_, fun b hslot htimer => ?_⟩
  · cases late with
    | true => rfl
    | false =>
      refine if_neg ?_
      dsimp only
      cases hslot : s.slots[p] with
      | none => exact Bool.false_ne_true
      | some b => rw [Option.bind_some, hidle.resolve_left Bool.false_ne_true b hslot]; exact Bool.false_ne_true
  · obtain ⟨hawake, hidle⟩ := (hs p b hslot).awake_of_timer htimer
    have hruns : (s.slots[p].bind Berth.timer).isSome = true := by rw [hslot]; exact htimer
    have hexec : exec (.inactivityExpiry ⟨p, false⟩) s = .next (s.claim p false (Image.expire s.quiet)).settle := if_pos hruns
    rw [hexec, State.claim, State.mapBerth_of_some hslot]
    refine ⟨fun hday => .of_settle ?_, fun hquiet => .of_settle ?_⟩
    · rw [hday, Berth.claim_expire_day hidle]
    · rw [hquiet, Berth.claim_expire_quiet hawake hidle]

/-- Settles O39: RINGING_1 on the berths that match, or the end of the ringing calls of the stop; the counts are of the table
as the request found it. -/
theorem routeProgress : Obligations.RouteProgress := by
  refine ⟨fun items s stop minutes => ?_, fun items s stop hs hitems => ?_⟩
  · intro ring armed due start count
    refine ⟨fun hitems => ?_, fun hitems => ?_⟩
    · simp only [exec, execRouteProgressApproach, State.routeRequest, hitems]
      refine .of_accept (s.ringWhere_eq fun _ => Image.armed_of_dueAt) ?_
      show [byteOf _] = [byteOf (s.matching _).length]
      rw [State.matching_eq]
      rfl
    · simp only [exec, execRouteProgressArrive, State.routeRequest, hitems]
      refine .of_accept ?_ ?_
      · show (s.ringWhere (Image.armedFor stop)).flagPorts .wakeLate (s.matching (Image.armedFor stop)) = _
        rw [State.flagPorts_eq (s.matching_contains _), s.ringWhere_eq fun _ => Image.armed_of_armedFor]
        simp only [State.putSlots_ports]
        rfl
      · show [byteOf _] = [byteOf (s.matching _).length]
        rw [State.matching_eq]
        rfl
  · intro leaves rings ended count
    simp only [exec, execRouteProgressDepart, State.routeRequest, hitems]
    refine .of_accept ?_ ?_
    · refine congrArg State.copyIfIdle ?_
      show ((s.departRinging stop).flagPorts .overstay (s.matching (Image.leavesAt stop))).flagPorts .wakeUnanswered
        (s.matching (Image.ringsFor stop)) = _
      rw [State.flagPorts_flagPorts (s.matching_contains _) (s.matching_contains _), State.departRinging_eq hs]
      simp only [State.putSlots_ports]
      rfl
    · show [byteOf _, byteOf _] = [byteOf (s.matching _).length, byteOf (s.matching _).length]
      rw [State.matching_eq, State.matching_eq]
      rfl

/-- Settles O40: the check of R101, and the copy made at once or left waiting. -/
theorem wakeProfiles : Obligations.WakeProfiles := by
  refine ⟨fun items s c hitems => ?_, fun s => .of_answer 0x42#8 State.profileData s, fun s => ?_⟩
  · intro p
    have happly : c.apply s.wake.pending = p := rfl
    refine ⟨fun hfalls => ?_, fun hfirst hsecond => ⟨fun ⟨q, b, hb, hramp⟩ => ?_, fun hidle => ?_⟩⟩
    · have hrising : ¬p.rising = true := by
        rwa [Profile.rising, Bool.and_eq_true, decide_eq_true_eq, decide_eq_true_eq]
      simp only [exec, execSetWakeProfile, hitems, happly, if_neg hrising]
      exact .of_refuse _ _ _
    all_goals
      have hrising : p.rising = true := by simp [Profile.rising, hfirst, hsecond]
      simp only [exec, execSetWakeProfile, hitems, happly, if_pos hrising]
    · have hset : s.setProfile p = { s with wake := { s.wake with pending := p, waiting := true } } :=
        State.copyIfIdle_waits fun h => by
          have hnone : b.ramp = none := h.2 q b hb
          rw [hnone] at hramp
          cases hramp
      exact .of_accept hset (by rw [hset, State.settle_profileData, flagByte_true])
    · have hset : s.setProfile p = { s with wake := { active := p, pending := p, waiting := false } } :=
        State.copyIfIdle_copies (s := { s with wake := { s.wake with pending := p, waiting := true } }) rfl hidle
      exact .of_accept hset (by rw [hset, State.settle_profileData, flagByte_false])
  · by_cases hcopies : s.wake.waiting = true ∧ ∀ q : Port, ∀ b ∈ s.slots[q], b.ramp = none
    · rw [if_pos hcopies, State.copyIfIdle_copies hcopies.1 hcopies.2]
    · rw [if_neg hcopies, State.copyIfIdle_waits hcopies]

/-- Settles O42: the expiries that do not apply, then the step, RINGING_2 and UNANSWERED. -/
theorem rampTimers : Obligations.RampTimers := by
  refine ⟨fun s p late hidle => ⟨execStepBoundary_idle hidle, execStage1Expiry_other ?_, execStage2Expiry_other ?_⟩,
    fun s p b r hs hslot hramp => ⟨?_, fun hwake => ⟨execStage2Expiry_other (.inr ?_), ?_⟩,
      fun hwake => ⟨execStage1Expiry_other (.inr ?_), ?_⟩⟩⟩
  · exact hidle.imp_right fun h => by rw [State.ringingStatus_idle h]; exact nofun
  · exact hidle.imp_right fun h => by rw [State.ringingStatus_idle h]; exact nofun
  · intro w stageEnd gain
    have hruns : (s.slots[p].bind Berth.ramp).isSome = true := by rw [hslot, Option.bind_some, hramp]; rfl
    have hexec : exec (.stepBoundary ⟨p, false⟩) s = .next (s.stepRamp p).settle := if_pos hruns
    rw [hexec]
    exact .of_settle (State.stepRamp_eq hslot hramp)
  · rw [State.ringingStatus_of_ramp hslot hramp, hwake]; exact nofun
  · have hrings : s.ringingStatus p = some .ringing1 := by rw [State.ringingStatus_of_ramp hslot hramp, hwake]
    refine .of_eq ((if_pos hrings).trans ?_)
    rw [State.mapBerth_of_some hslot, Berth.escalate_eq (hs p b hslot) hramp hwake]
  · rw [State.ringingStatus_of_ramp hslot hramp, hwake]; exact nofun
  · have hrings : s.ringingStatus p = some .ringing2 := by rw [State.ringingStatus_of_ramp hslot hramp, hwake]
    have hberth := hs p b hslot
    have hwaking : b.image.state = .waking := hberth.waking.2 (by rw [hwake]; rfl)
    refine .of_eq ((if_pos hrings).trans ?_)
    rw [State.mapBerth_of_some hslot, Berth.endRinging_eq hberth hwaking]
    rfl

end Sys2Proof.Proofs
end

section
/-! SUPPORT. The Call List, presses of a berth button and the alert (spec/07 R113 to R123; 08 R126 to R134). -/

namespace Sys2Proof.Machine

open Sys2Proof

/-! ### Raising a call (07 R120) -/

section

variable {s : State} {p : Port}

/-- The reason is added, whichever it is, and the entry is PENDING again. -/
theorem Call.raise_eq (r : CallReason) (c : Call) :
    c.raise r = { c with
      passenger := c.passenger || decide (r = .passenger), wake := c.wake || decide (r = .wake), state := .pending } := by
  cases r with
  | passenger => simp [Call.raise]
  | wake => simp [Call.raise]

theorem State.raiseCall_new (r : CallReason) (hnone : s.callOf p = none) :
    s.raiseCall p r = { s with
      ports := s.ports.set p.val { s.ports[p] with flags := s.ports[p].flags ||| BerthKind.callRaised.mark }
      calls := s.calls ++ [Call.new p r s.clock] } := by
  unfold State.raiseCall; rw [hnone]; rfl

theorem State.raiseCall_again {c : Call} (r : CallReason) (hcall : s.callOf p = some c) (hhas : c.has r = true) :
    s.raiseCall p r = { s with calls := s.calls.map fun c => if c.port = p then c.raise r else c } := by
  unfold State.raiseCall; rw [hcall]; exact if_pos hhas

theorem State.raiseCall_reason {c : Call} (r : CallReason) (hcall : s.callOf p = some c) (hhas : c.has r = false) :
    s.raiseCall p r = { s with
      ports := s.ports.set p.val { s.ports[p] with flags := s.ports[p].flags ||| BerthKind.callRaised.mark }
      calls := s.calls.map fun c => if c.port = p then c.raise r else c } := by
  unfold State.raiseCall; rw [hcall]; exact if_neg (by rw [hhas]; exact Bool.false_ne_true)

/-- A change beside the record of one berth starts no walk. -/
theorem State.mapBerth_image {b : Berth} {f : Berth → Berth} (hslot : s.slots[p] = some b) (hf : (f b).image = b.image) :
    s.mapBerth p f = { s with slots := s.slots.set p.val (some (f b)) } := by
  rw [State.mapBerth_of_some hslot]
  refine State.putSlots_same fun q => ?_
  rw [Vector.set_get_eq]
  by_cases hq : q = p
  · rw [if_pos hq, hq, hslot, Option.map_some, Option.map_some, hf]
  · rw [if_neg hq]

theorem execWindowExpiry_idle {late : Bool} (h : late = true ∨ ∀ b ∈ s.slots[p], b.button = .idle) :
    execWindowExpiry ⟨p, late⟩ s = .next s := by
  cases late with
  | true => rfl
  | false =>
    refine if_neg fun harmed => ?_
    obtain ⟨b, hb, hbutton⟩ := (Option.any_eq_true ..).1 harmed
    rw [h.resolve_left Bool.false_ne_true b hb] at hbutton
    cases hbutton

theorem State.endWindow_eq {b : Berth} (hslot : s.slots[p] = some b) :
    s.endWindow p = State.raiseCall p .passenger { s with slots := s.slots.set p.val (some { b with button := .idle }) } := by
  unfold State.endWindow
  rw [State.mapBerth_image hslot rfl]

end

/-! ### The entry of a port (07 R119) -/

section

variable {s : State} {p : Port}

/-- A port appears at most once in a lawful list. -/
theorem State.CallsLawful.callOf {c : Call} (hs : s.CallsLawful) (hc : c ∈ s.calls) (hport : c.port = p) :
    s.callOf p = some c := by
  unfold State.callOf
  cases hfind : s.calls.find? fun c => c.port == p with
  | none => exact absurd (beq_iff_eq.2 hport) (by simpa using List.find?_eq_none.1 hfind c hc)
  | some e =>
    have hcheck := List.find?_some hfind
    have heport : e.port = p := beq_iff_eq.1 hcheck
    exact congrArg some (List.inj_on_of_nodup_map hs.1 (List.mem_of_find?_eq_some hfind) hc (heport.trans hport.symm))

theorem State.callOf_isSome : (s.callOf p).isSome = true ↔ ∃ c ∈ s.calls, c.port = p := by
  unfold State.callOf
  rw [List.find?_isSome]
  simp only [beq_iff_eq]

theorem State.callOf_none (h : ∀ c ∈ s.calls, c.port ≠ p) : s.callOf p = none :=
  List.find?_eq_none.2 fun c hc => by simpa using h c hc

theorem State.settle_calls (u : State) : u.settle.calls = u.calls :=
  u.settle_settledFrom.field State.calls fun _ _ _ _ => rfl

theorem State.settle_callOf (u : State) (p : Port) : u.settle.callOf p = u.callOf p := by
  unfold State.callOf; rw [State.settle_calls]

/-- The entry after CALL_ATTEND stands where it stood. -/
theorem State.attendCall_callOf {c : Call} (hcall : s.callOf p = some c) :
    (s.attendCall p).callOf p = some { c with state := .attended } := by
  have hfind : s.calls.find? (fun e => e.port == p) = some c := hcall
  have hcheck := List.find?_some hfind
  have hport : c.port = p := beq_iff_eq.1 hcheck
  have hattended : ((fun e : Call => e.port == p) ∘ fun e => if e.port = p then { e with state := .attended } else e) =
      fun e : Call => e.port == p := by
    funext e
    by_cases he : e.port = p
    · simp only [Function.comp_apply, if_pos he]
    · simp only [Function.comp_apply, if_neg he]
  unfold State.callOf State.attendCall
  rw [List.find?_map, hattended, hfind, Option.map_some, if_pos hport]

end

/-! ### Presses (07 R113 to R117) -/

section

variable {s : State} {p : Port} {b : Berth} {n : Nat}

theorem State.presses_vacant (hslot : s.slots[p] = none) : s.presses p (n + 1) = s := by
  unfold State.presses; rw [hslot]

/-- The answer discards the presses behind it (06 R109). -/
theorem State.presses_answer (hslot : s.slots[p] = some b) (hwaking : b.image.state = .waking) :
    s.presses p (n + 1) = s.answerCall p := by
  rw [State.presses, hslot]; exact if_pos hwaking

theorem State.presses_press (hslot : s.slots[p] = some b) (hwaking : b.image.state ≠ .waking) :
    s.presses p (n + 1) = (s.press p b.button).presses p n := by
  rw [State.presses, hslot]; exact if_neg hwaking

theorem State.answerCall_eq (hs : s.BerthsLawful) (hslot : s.slots[p] = some b) (hwaking : b.image.state = .waking) :
    s.answerCall p = State.copyIfIdle { s.putSlots (s.slots.set p.val (some
        { image := { b.image with wake := .answered, state := .awake, generation := b.image.generation + 1 }
          timer := if s.alert.state = .clear then some s.policy.load else none
          button := .idle
          ramp := none })) with
        ports := s.ports.set p.val { s.ports[p] with flags := s.ports[p].flags ||| BerthKind.wakeAnswered.mark }
        calls := s.calls.filterMap fun c =>
          if c.port = p then (if c.passenger then some { c with wake := false } else none) else some c } := by
  unfold State.answerCall
  rw [State.mapBerth_of_some hslot, Berth.endRinging_eq (hs p b hslot) hwaking]
  rfl

theorem State.pressClaim_eq (hslot : s.slots[p] = some b) (f : Image → Image) (after : Button) :
    s.pressClaim p f after = s.putSlots (s.slots.set p.val (some
      { b.claim s.alert.state s.policy.load true f with button := after })) :=
  State.mapBerth_of_some hslot _

theorem State.press_cancels (button : Button) (hcall : (s.callOf p).isSome = true) :
    s.press p button = ((s.pressClaim p Image.active .idle).dropCall p).flagBerth .callCancelled p := if_pos hcall

theorem State.press_first (hcall : s.callOf p = none) :
    s.press p .idle = s.pressClaim p Image.active (.armed s.windowMs) := by
  unfold State.press; rw [hcall]; rfl

theorem State.press_second {button : Button} (hbutton : button ≠ .idle) (hcall : s.callOf p = none) :
    s.press p button = s.pressClaim p (Image.doublePress s.alert.state) .idle := by
  unfold State.press
  rw [hcall]
  cases button with
  | idle => exact absurd rfl hbutton
  | armed ms => rfl

theorem Image.doublePress_clear : Image.doublePress .clear = fun i => { i.active with state := .night } := rfl

theorem Image.doublePress_alert {alert : AlertState} (halert : alert ≠ .clear) : Image.doublePress alert = Image.active :=
  funext fun _ => if_neg halert

end

/-! ### Alert entry (08 R129 to R132) -/

/-- No timer runs while ACTIVE; NIGHT becomes AWAKE. -/
theorem Berth.claim_rouse (load : Reload) (b : Berth) : b.claim .active load false Image.rouse = b.alerted := by
  have hstops : ∀ i : Image, i.runs .active = false := fun i => by simp [Image.runs]
  simp only [Berth.claim, Berth.alerted, hstops, nextTimer_not_running]
  by_cases hnight : b.image.state = .night
  · have hadvance : b.image.advance b.image.rouse =
        { b.image with state := .awake, generation := b.image.generation + 1 } := by
      rw [Image.rouse, if_pos hnight]
      refine Image.advance_of_ne fun hsame => ?_
      have hawake : BerthState.awake = b.image.state := congrArg Image.state hsame
      rw [hnight] at hawake
      cases hawake
    rw [hadvance, if_pos hnight]
  · have hadvance : b.image.advance b.image.rouse = b.image := by
      rw [Image.rouse, if_neg hnight]
      exact Image.advance_of_eq rfl
    rw [hadvance, if_neg hnight]

/-- Alert entry before slot 15. -/
theorem State.alertClaims_eq (s : State) :
    s.alertClaims = { s.putSlots (s.slots.map (Option.map Berth.alerted)) with
      alert := { s.alert with state := .active }
      events := { s.events with coach := s.events.coach ||| CoachKind.alert.mark } } := by
  unfold State.alertClaims State.claimAll
  rw [State.mapBerths_const]
  have hclaim : Berth.claim ((s.alertTo .active).flagCoach .alert).alert.state
      ((s.alertTo .active).flagCoach .alert).policy.load false Image.rouse = Berth.alerted :=
    funext fun b => Berth.claim_rouse _ b
  rw [hclaim]
  rfl

theorem State.alertClaims_isOpen (s : State) (p : Port) : s.alertClaims.isOpen p = s.isOpen p := by
  rw [State.alertClaims_eq]
  show (s.slots.map (Option.map Berth.alerted))[p].isSome = s.slots[p].isSome
  simp

theorem State.mem_openPorts {s : State} {p : Port} : p ∈ s.openPorts ↔ s.isOpen p = true :=
  List.mem_filter.trans (and_iff_right (List.mem_finRange p))

section

variable {s t : State} (ht : s.alertEntry.SettledFrom t)
include ht

/-- A live slot 15 is re-armed in place. -/
theorem State.alertEntry_rearms {a : Ann} (ha : s.roster.rec? alertSlot = some a) (hlive : a.state ≠ .done) :
    s.alertClaims.RosterOnly t
      { roster := s.roster.put alertSlot (a.rearm s.alertClaims.openPorts s.alert.config.budget)
        coach := s.alertClaims.events.coach } := by
  have hroster : s.alertClaims.roster = s.roster := by rw [State.alertClaims_eq]; rfl
  have hbudget : s.alertClaims.alert.config = s.alert.config := by rw [State.alertClaims_eq]
  have hdesk : s.alertClaims.deskAfter Desk.alertEntry =
      { roster := s.roster.put alertSlot (a.rearm s.alertClaims.openPorts s.alert.config.budget)
        coach := s.alertClaims.events.coach } := by
    have htest : s.roster.test Ann.live alertSlot = true :=
      Roster.test_eq_true.2 ⟨a, ha, by simp [Ann.live, hlive]⟩
    unfold State.deskAfter Desk.alertEntry
    rw [hroster, if_pos htest, Desk.update_of_rec (d := { roster := s.roster, coach := s.alertClaims.events.coach }) ha,
      hbudget]
  rw [← hdesk]
  exact State.rosterOnly_of_keeps (by rw [hdesk]) (by rw [hdesk]; exact BitVec.and_self) ht

/-- Else the alert configuration is freshly admitted. -/
theorem State.alertEntry_admits (hdone : ∀ a ∈ s.roster.rec? alertSlot, a.state = .done) :
    s.alertClaims.Admits t alertSlot (alertAnn s.alert.config) s.alertClaims.openPorts := by
  have hroster : s.alertClaims.roster = s.roster := by rw [State.alertClaims_eq]; rfl
  have hconfig : s.alertClaims.alert.config = s.alert.config := by rw [State.alertClaims_eq]
  have hdesk : s.alertClaims.deskAfter Desk.alertEntry =
      s.alertClaims.deskAfter fun env =>
        Desk.enroll env alertSlot ((alertAnn s.alert.config).asAdmitted s.alertClaims.openPorts) := by
    have htest : ¬s.roster.test Ann.live alertSlot = true := fun htest => by
      obtain ⟨a, ha, hlive⟩ := Roster.test_eq_true.1 htest
      simp [Ann.live, hdone a ha] at hlive
    unfold State.deskAfter Desk.alertEntry
    rw [hroster, if_neg htest, hconfig]
  refine State.admits_of_enroll (fun x hx => hdone x (by rw [← hroster]; exact hx)) ?_
  rw [State.alertEntry_eq, State.atDesk_eq, hdesk] at ht
  rw [State.atDesk_eq]
  exact ht

/-- The whole of alert entry. -/
theorem State.alertEntered : s.AlertEntered t := by
  refine ⟨fun a ha hlive => ?_, fun hdone => ?_⟩
  · have honly := State.alertEntry_rearms ht ha hlive
    have hopen : ∀ p, p ∈ s.alertClaims.openPorts ↔ s.isOpen p = true := fun p => by
      rw [State.mem_openPorts, State.alertClaims_isOpen]
    generalize s.alertClaims.openPorts = ps at honly hopen
    rw [State.alertClaims_eq] at honly
    refine ⟨allPorts.filter fun p => a.owed.contains p || ps.contains p, fun p => ?_, (List.nodup_finRange 40).filter _, honly⟩
    rw [List.mem_filter, and_iff_right (show p ∈ allPorts from List.mem_finRange p), Bool.or_eq_true,
      List.contains_iff_mem, List.contains_iff_mem, hopen]
  · have hadmits := State.alertEntry_admits ht hdone
    refine ⟨s.alertClaims.openPorts, fun p => ?_, State.openPorts_nodup _, alertAnn s.alert.config, rfl, rfl, rfl, rfl, rfl,
      rfl, rfl, rfl, rfl, rfl, rfl, ?_⟩
    · rw [State.mem_openPorts, State.alertClaims_isOpen]
    · rw [← State.alertClaims_eq]; exact hadmits

/-- Slot 15 holds a record after alert entry. -/
theorem State.alertEntry_record : ∃ a, t.roster.rec? alertSlot = some a := by
  by_cases hdone : ∀ a ∈ s.roster.rec? alertSlot, a.state = .done
  · obtain ⟨b, hb, -⟩ := (State.alertEntry_admits ht hdone).record
    exact ⟨b, hb⟩
  · simp only [not_forall] at hdone
    obtain ⟨a, ha, hlive⟩ := hdone
    rw [(State.alertEntry_rearms ht ha hlive).roster, Roster.depart_rec, Roster.rec_put, if_pos rfl]
    exact ⟨_, rfl⟩

end

/-! ### The other alert requests (08 R126, R133, R134) -/

theorem State.SettledFrom.alert {u t : State} (h : u.SettledFrom t) : t.alert = u.alert :=
  h.field State.alert fun _ _ _ _ => rfl

theorem State.alertEntry_alert (s : State) : s.alertEntry.alert = { s.alert with state := .active } := by
  rw [State.alertEntry_eq, State.atDesk_eq, State.alertClaims_eq]

theorem State.alertEntry_reply (s : State) : s.alertEntry.reply = s.reply := by
  rw [State.alertEntry_eq, State.atDesk_eq, State.alertClaims_eq]
  rfl

/-- The response data of ALERT_RAISE. -/
def State.raiseData (rearms : Bool) (t : State) : List (List Byte) :=
  [byteOf t.alert.state.code, flagByte rearms, t.roster.stateBytes alertSlot] ++ (t.admissionData alertSlot).take 2

theorem State.raiseData_respond (rearms : Bool) (t : State) (code : Byte) (st : Status) (data : List (List Byte)) :
    (t.respond code st data).raiseData rearms = t.raiseData rearms := rfl

theorem execAlertRaise_takes {s : State} (hactive : s.alert.state ≠ .active) :
    Takes (execAlertRaise [] s) s.alertEntry 0x60#8 (State.raiseData s.rearms) := by
  have hexec : execAlertRaise [] s = accept 0x60#8 (State.raiseData s.rearms) s.alertEntry := if_neg hactive
  rw [hexec]
  exact .of_accept rfl (State.raiseData_respond _ _ _ _ _)

theorem State.settle_alert (u : State) : u.settle.alert = u.alert :=
  u.settle_settledFrom.field State.alert fun _ _ _ _ => rfl

/-- At RESUME a timer is loaded exactly where the run condition begins to hold (05 R97). -/
theorem Berth.resume_eq (load : Reload) (b : Berth) :
    b.resume load = { b with
      timer := if b.image.state = .awake ∧ b.image.idle = false then some load else none } := by
  have hruns : b.image.runs .clear = true ↔ b.image.state = .awake ∧ b.image.idle = false := by
    rw [Image.runs_iff]; simp only [and_true]
  unfold Berth.resume
  by_cases hrun : b.image.runs .clear = true
  · rw [hrun, if_pos (hruns.1 hrun)]; rfl
  · rw [Bool.eq_false_iff.2 hrun, if_neg (fun h => hrun (hruns.2 h))]; rfl

theorem Berth.map_get (v : Vector (Option Berth) 40) (f : Berth → Berth) (q : Port) :
    (v.map (Option.map f))[q] = v[q].map f := by simp

/-- RESUME changes timers alone, so no walk starts. -/
theorem State.resume_eq (s : State) :
    s.resume = { s with
      alert := { s.alert with state := .clear }
      slots := s.slots.map (Option.map fun b => { b with
        timer := if b.image.state = .awake ∧ b.image.idle = false then some s.policy.load else none }) } := by
  have hresume : Berth.resume s.policy.load = fun b => { b with
      timer := if b.image.state = .awake ∧ b.image.idle = false then some s.policy.load else none } :=
    funext fun b => Berth.resume_eq _ b
  unfold State.resume
  rw [State.mapBerths_const, hresume]
  refine State.putSlots_same (s := s.alertTo .clear) fun q => ?_
  rw [Berth.map_get, Option.map_map]
  rfl

theorem EdgeSelection.selects_eq (e : EdgeSelection) (level : Level) :
    e.selects level = match e, level with
      | .falling, .low => true
      | .rising, .high => true
      | .both, _ => true
      | _, _ => false := by
  cases e with
  | none => cases level <;> rfl
  | falling => cases level <;> rfl
  | rising => cases level <;> rfl
  | both => cases level <;> rfl

end Sys2Proof.Machine
end

section
/-! PROOF. Calls, presses and the alert (spec/07, spec/08). -/

namespace Sys2Proof.Proofs

open Sys2Proof Sys2Proof.Machine

/-- Settles O43: a new entry, a new reason or one the entry has; the window; the clock. -/
theorem callRaises : Obligations.CallRaises := by
  refine ⟨fun s p r => ?_, fun s p b ms hslot hbutton => ?_, fun s p late => execWindowExpiry_idle, fun s => rfl⟩
  · simp only [← Call.raise_eq]
    refine ⟨fun hnone => State.raiseCall_new r hnone, fun c hcall => ⟨fun hhas => ?_, fun hhas => ?_⟩⟩
    · exact State.raiseCall_reason r hcall (by cases r <;> exact hhas)
    · exact State.raiseCall_again r hcall (by cases r <;> exact hhas)
  · have harmed : (s.slots[p].any fun b => b.button.isArmed) = true := by
      rw [hslot, Option.any_some, hbutton]; rfl
    refine .of_eq ((if_pos harmed).trans ?_)
    rw [State.endWindow_eq hslot]

/-- Settles O44: the reads, and CALL_ATTEND and CALL_CLOSE on the one entry of the port. -/
theorem callRequests : Obligations.CallRequests := by
  refine ⟨fun items s => ⟨fun ms hitems => ?_, fun hempty => ⟨fun hnone => ?_, fun before after c hcalls hpending hbefore => ?_⟩,
    fun hitems => ?_, fun start hitems => ?_⟩, fun items s hitems => ⟨?_, ?_⟩, fun items s p hitems hs =>
    ⟨fun hnone => ⟨?_, ?_⟩, fun c hc hport => ⟨fun hattended => ?_, fun hpending => ?_, ?_⟩⟩⟩
  · simp only [exec, execSetButtonWindow, hitems]; exact .of_accept rfl rfl
  · subst hempty
    have hfind : s.calls.find? (fun c => decide (c.state = .pending)) = none :=
      List.find?_eq_none.2 fun c hc => by simpa using hnone c hc
    have hreads := Replies.of_answer 0x51#8
      (fun t : State => [optBytes Call.bytes (t.calls.find? fun c => decide (c.state = .pending))]) s
    simp only [hfind] at hreads
    exact hreads
  · subst hempty
    have hfind : s.calls.find? (fun c => decide (c.state = .pending)) = some c := by
      rw [hcalls, List.find?_append, List.find?_eq_none.2 fun e he => by simpa using hbefore e he, Option.none_or]
      exact List.find?_cons_of_pos (decide_eq_true hpending)
    have hreads := Replies.of_answer 0x51#8
      (fun t : State => [optBytes Call.bytes (t.calls.find? fun c => decide (c.state = .pending))]) s
    simp only [hfind] at hreads
    exact hreads
  · simp only [exec, execCallList, hitems]; exact .of_refuse _ _ _
  · simp only [exec, execCallList, hitems]; exact .of_answer _ _ _
  · simp only [exec, execCallAttend, hitems]; exact .of_refuse _ _ _
  · simp only [exec, execCallClose, hitems]; exact .of_refuse _ _ _
  · simp only [exec, execCallAttend, hitems, State.callOf_none hnone]; exact .of_refuse _ _ _
  · simp only [exec, execCallClose, hitems, State.callOf_none hnone]; exact .of_refuse _ _ _
  · simp only [exec, execCallAttend, hitems, hs.callOf hc hport, if_pos hattended]; exact .of_refuse _ _ _
  · have hwaits : ¬c.state = .attended := by rw [hpending]; exact nofun
    simp only [exec, execCallAttend, hitems, hs.callOf hc hport, if_neg hwaits]
    refine .of_accept rfl ?_
    rw [State.settle_callOf, State.attendCall_callOf (hs.callOf hc hport)]
    rfl
  · simp only [exec, execCallClose, hitems, hs.callOf hc hport]; exact .of_accept rfl rfl

/-- Settles O45: the rows of the press table, one press at a time. -/
theorem presses : Obligations.Presses := by
  refine ⟨fun b c => ?_, fun s p n => ⟨rfl, State.presses_vacant, fun b hslot => ?_⟩⟩
  · have hdifference : (c - b).toNat = (16 + c.toNat - b.toNat) % 16 := by
      rw [BitVec.toNat_sub]
      have := b.isLt
      omega
    show min Config.pressLimit (c - b).toNat = _
    rw [hdifference]
    rfl
  intro active pressed flagged
  refine ⟨fun hwaking hs => ?_, fun hwaking hcall => ?_, fun hwaking hnone => ⟨fun hbutton => ?_, fun hbutton halert => ?_,
    fun hbutton halert => ?_⟩⟩
  · rw [State.presses_answer hslot hwaking, State.answerCall_eq hs hslot hwaking]
    rfl
  all_goals rw [State.presses_press hslot hwaking]
  · rw [State.press_cancels _ (State.callOf_isSome.2 hcall), State.pressClaim_eq hslot]
    rfl
  · rw [hbutton, State.press_first (State.callOf_none hnone), State.pressClaim_eq hslot]
    rfl
  · rw [State.press_second hbutton (State.callOf_none hnone), State.pressClaim_eq hslot, halert, Image.doublePress_clear,
      ← halert]
    rfl
  · rw [State.press_second hbutton (State.callOf_none hnone), State.pressClaim_eq hslot, Image.doublePress_alert halert]
    rfl

/-- Settles O46: alert entry is the claims and slot 15, whether ALERT_RAISE or a selected edge makes it. -/
theorem alertEntry : Obligations.AlertEntry := by
  refine ⟨fun s hactive => ?_, fun s hactive => ?_, fun s level => ?_⟩
  · have hexec : exec (.alertRaise []) s = refuse 0x60#8 .already s := if_pos hactive
    exact hexec ▸ .of_refuse _ _ _
  · obtain ⟨t, hexec, ht, hreply⟩ := execAlertRaise_takes hactive
    have hentered := State.alertEntered ht
    obtain ⟨a, ha⟩ := State.alertEntry_record ht
    have hstate : t.alert.state = .active := by rw [ht.alert, State.alertEntry_alert]
    refine ⟨t, a, hexec, hentered, ha, ?_⟩
    rw [hreply, State.raiseData, hstate, Roster.stateBytes_of_rec ha, State.admissionData_of_rec ha]
    rfl
  · intro u selected
    have hselected : s.alert.config.edge.selects level = selected := EdgeSelection.selects_eq _ _
    refine ⟨fun hsame => if_pos hsame, fun hedge hquiet => ?_, fun hedge hsel hactive => ?_⟩
    · refine (if_neg hedge).trans (if_neg fun h => ?_)
      rw [hselected] at h
      rcases hquiet with hunselected | hactive
      · rw [hunselected] at h; exact Bool.false_ne_true h.1
      · exact h.2 hactive
    · have hexec : exec (.alertInEdge level) s = .next (s.alertLevel level).alertEntry.settle :=
        (if_neg hedge).trans (if_pos ⟨hselected.trans hsel, hactive⟩)
      obtain ⟨t, hexec, ht, hreply⟩ := Happens.of_eq hexec
      exact ⟨t, hexec, State.alertEntered ht, hreply.trans (State.alertEntry_reply _)⟩

/-- Settles O47: each request in the alert states it is taken in. -/
theorem alertRequests : Obligations.AlertRequests := by
  refine fun s => ⟨fun hstate => ?_, fun hstate => ?_, fun hstate => ?_, fun hstate => ?_, fun hstate => ?_,
    fun items c hitems => ?_, ?_⟩
  · have hexec : exec (.alertClear []) s = refuse 0x61#8 .wrongState s := if_neg hstate
    exact hexec ▸ .of_refuse _ _ _
  · have hexec : exec (.alertClear []) s = accept 0x61#8 (fun t => [byteOf t.alert.state.code]) (s.alertTo .released) :=
      if_pos hstate
    rw [hexec]
    refine .of_accept rfl ?_
    rw [State.settle_alert]
    show [[2#8]] = [byteOf 2]
    decide
  · have hexec : exec (.resume []) s = refuse 0x62#8 .alertActive s := by
      show execResume [] s = _
      unfold execResume
      rw [hstate]
      rfl
    exact hexec ▸ .of_refuse _ _ _
  · have hexec : exec (.resume []) s = refuse 0x62#8 .wrongState s := by
      show execResume [] s = _
      unfold execResume
      rw [hstate]
      rfl
    exact hexec ▸ .of_refuse _ _ _
  · have hexec : exec (.resume []) s = accept 0x62#8 (fun t => [byteOf t.alert.state.code]) s.resume := by
      show execResume [] s = _
      unfold execResume
      rw [hstate]
      rfl
    rw [hexec]
    refine .of_accept s.resume_eq ?_
    rw [State.settle_alert, State.resume_eq]
    show [[0#8]] = [byteOf 0]
    decide
  · intro config
    have happly : c.apply s.alert.config = config := rfl
    have hmic : config.repeatsMic = true ↔ config.source = .mic ∧ 0 < config.budget := by
      rw [AlertConfig.repeatsMic, Bool.and_eq_true, decide_eq_true_eq, decide_eq_true_eq]
    refine ⟨fun hrepeats => ?_, fun hallowed => ?_⟩
    · simp only [exec, execSetAlertConfig, hitems, happly, if_pos (hmic.2 hrepeats)]
      exact .of_refuse _ _ _
    · simp only [exec, execSetAlertConfig, hitems, happly, if_neg (fun h => hallowed (hmic.1 h))]
      exact .of_accept rfl rfl
  · have hreads := Replies.of_answer 0x64#8 (fun t : State =>
      [byteOf t.alert.state.code, t.alert.config.bytes, byteOf (levelCode t.alert.level), t.roster.stateBytes alertSlot]) s
    have hslot : s.roster.stateBytes alertSlot = match s.roster.rec? alertSlot with
        | none => []
        | some a => byteOf a.state.code := by
      unfold Roster.stateBytes
      cases s.roster.rec? alertSlot <;> rfl
    rw [hslot] at hreads
    exact hreads

end Sys2Proof.Proofs
end

section
/-! SUPPORT. The berth ports: power commands, settings, senses and timers (spec/09 R138 to R148). -/

namespace Sys2Proof.Machine

open Sys2Proof

/-! ### Responses that read the settled state -/

/-- The response data may be said in another way, of the settled state. -/
theorem Takes.congr_data {o : Answer} {u : State} {code : Byte} {data data' : State → List (List Byte)}
    (h : Takes o u code data) (hdata : ∀ t, u.SettledFrom t → data t = data' t) : Takes o u code data' := by
  obtain ⟨t, ho, ht, hreply⟩ := h
  exact ⟨t, ho, ht, by rw [hreply, hdata t ht]⟩

theorem byteOf_zero : byteOf 0 = [0#8] := by decide

theorem byteOf_one : byteOf 1 = [1#8] := by decide

/-! ### Power commands (R142, R143) -/

section

variable {r : PortRec}

theorem PortRec.polled_iff : r.polled = true ↔ r.state = .linking ∨ r.state = .active := by
  simp only [PortRec.polled, Bool.or_eq_true, decide_eq_true_eq]

theorem PortRec.resting (h : r.state = .present ∨ r.state = .fault) : ¬r.polled = true ∧ r.state ≠ .empty := by
  rw [PortRec.polled_iff]
  rcases h with h | h <;> simp [h]

theorem PortRec.running (h : r.state = .linking ∨ r.state = .active) : r.polled = true ∧ r.state ≠ .empty := by
  rw [PortRec.polled_iff]
  rcases h with h | h <;> simp [h]

/-- A command that completes at once, with none in flight before it. -/
theorem PortRec.doneAtOnce_eq (hidle : r.command = none) (v : PowerRequest) :
    r.doneAtOnce v =
      { r with request := v, outcome := some .done, flags := r.flags ||| BerthKind.portCommandDone.mark } := by
  obtain ⟨⟩ := r
  cases hidle
  rfl

theorem PortRec.powerOn_good (timing : PortTiming) : r.powerOn timing false = { r with
    state := .powering, cause := none, switch := .closed, request := .on, command := some .powerOn
    desired := none, lastSent := none, acked := none, timer := some (.powerGood timing.powerGoodMs) } := rfl

/-- The power-fault sense stands asserted at the closing (R141). -/
theorem PortRec.powerOn_faulty (timing : PortTiming) : r.powerOn timing true = { r with
    state := .fault, cause := some .power, switch := .opened, request := .on, command := none
    outcome := some .failed, desired := none, lastSent := none, acked := none, timer := none
    flags := r.flags ||| BerthKind.portCommandDone.mark ||| BerthKind.powerFault.mark } := rfl

theorem PortRec.powerData_inFlight {c : PowerCommand} (hcommand : r.command = some c) :
    r.powerData = [byteOf r.request.code, [], byteOf c.code] := by
  unfold PortRec.powerData; rw [hcommand]; rfl

theorem PortRec.powerData_completed {o : CommandOutcome} (hcommand : r.command = none) (houtcome : r.outcome = some o) :
    r.powerData = [byteOf r.request.code, byteOf o.code, []] := by
  unfold PortRec.powerData; rw [hcommand, houtcome]; rfl

end

section

variable {s : State} {q : PowerParams}

theorem State.portPower_on_resting (hrest : ¬s.ports[q.port].polled = true) (hon : q.value = .on) :
    s.portPower q = { s with
      ports := s.ports.set q.port.val (s.ports[q.port].powerOn s.timing s.senses.fault[q.port]) } := by
  unfold State.portPower; rw [hon]; exact if_neg hrest

theorem State.portPower_on_polled (hpolled : s.ports[q.port].polled = true) (hon : q.value = .on) :
    s.portPower q = s.mapPort q.port (PortRec.doneAtOnce .on) := by
  unfold State.portPower; rw [hon]; exact if_pos hpolled

theorem State.portPower_off_resting (hrest : ¬s.ports[q.port].polled = true) (hoff : q.value = .off) :
    s.portPower q = s.mapPort q.port (PortRec.doneAtOnce .off) := by
  unfold State.portPower; rw [hoff]; exact if_neg hrest

theorem State.portPower_off_polled (hpolled : s.ports[q.port].polled = true) (hoff : q.value = .off) :
    s.portPower q = s.dropPort q.port PortRec.powerOff := by
  unfold State.portPower; rw [hoff]; exact if_pos hpolled

theorem State.set_ports_get (s : State) (p : Port) (r : PortRec) :
    ({ s with ports := s.ports.set p.val r } : State).ports[p] = r := by simp

section

variable {items : List Item} (hitems : powerParams items = some q)
include hitems

theorem execPortPower_busy (hbusy : s.ports[q.port].command.isSome = true) :
    Replies (execPortPower items s) s 0x70#8 .portBusy [] := by
  simp only [execPortPower, hitems, if_pos hbusy]; exact .of_refuse _ _ _

variable (hidle : s.ports[q.port].command = none)
include hidle

theorem execPortPower_empty (hempty : s.ports[q.port].state = .empty) :
    Replies (execPortPower items s) s 0x70#8 .wrongState [] := by
  have hfree : ¬s.ports[q.port].command.isSome = true := by rw [hidle]; exact Bool.false_ne_true
  simp only [execPortPower, hitems, if_neg hfree, if_pos hempty]; exact .of_refuse _ _ _

variable (hplugged : s.ports[q.port].state ≠ .empty) {u : State} (hu : s.portPower q = u)
include hplugged hu

/-- The command is accepted, and its data reads the record the event made. -/
theorem execPortPower_takes : Takes (execPortPower items s) u 0x70#8 fun _ => u.ports[q.port].powerData := by
  subst hu
  have htakes : Takes (execPortPower items s) (s.portPower q) 0x70#8 fun t => t.ports[q.port].powerData := by
    have hfree : ¬s.ports[q.port].command.isSome = true := by rw [hidle]; exact Bool.false_ne_true
    simp only [execPortPower, hitems, if_neg hfree, if_neg hplugged]
    exact .of_accept rfl rfl
  exact htakes.congr_data fun t ht => by rw [ht.ports]; rfl

variable {r : PortRec} (hport : u.ports[q.port] = r)
include hport

/-- An accepted command that stays in flight. -/
theorem execPortPower_starts {c : PowerCommand} (hcommand : r.command = some c) {x z : List Byte}
    (hx : byteOf r.request.code = x) (hz : byteOf c.code = z) :
    Takes (execPortPower items s) u 0x70#8 fun _ => [x, [], z] := by
  have htakes := execPortPower_takes hitems hidle hplugged hu
  rwa [hport, PortRec.powerData_inFlight hcommand, hx, hz] at htakes

/-- An accepted command that completes at once. -/
theorem execPortPower_completes {o : CommandOutcome} (hcommand : r.command = none) (houtcome : r.outcome = some o)
    {x y : List Byte} (hx : byteOf r.request.code = x) (hy : byteOf o.code = y) :
    Takes (execPortPower items s) u 0x70#8 fun _ => [x, y, []] := by
  have htakes := execPortPower_takes hitems hidle hplugged hu
  rwa [hport, PortRec.powerData_completed hcommand houtcome, hx, hy] at htakes

end

end

/-! ### Settings (R147, R148) -/

theorem deckOf_eq_iff (p q : Port) : decide (deckOf p = deckOf q) = (decide (p.val < 20) == decide (q.val < 20)) := by
  unfold deckOf
  by_cases hp : p.val < 20
  · by_cases hq : q.val < 20
    · simp [hp, hq]
    · simp [hp, hq]
  · by_cases hq : q.val < 20
    · simp [hp, hq]
    · simp [hp, hq]

/-- A remaining time is at most the time loaded (log 1). -/
theorem freeRemaining_le (k loaded : Nat) : freeRemaining k loaded ≤ loaded :=
  Nat.lt_succ_iff.1 (Nat.mod_lt _ (Nat.succ_pos _))

/-! ### Senses and timers (R140, R141, R143, R144) -/

section

variable {r : PortRec} {sense : Bool} (h : r.Lawful sense)
include h

theorem PortRec.Lawful.cause_none (hstate : r.state ≠ .fault) : r.cause = none :=
  Option.not_isSome_iff_eq_none.1 fun hsome => hstate (h.cause.1 hsome)

theorem PortRec.Lawful.undelivered (hstate : r.state ≠ .active) : r.desired = none ∧ r.lastSent = none ∧ r.acked = none :=
  h.delivery.resolve_left hstate

/-- The switch stands open in every state but LINKING and ACTIVE, unless a POWER_ON is in flight (R138). -/
theorem PortRec.Lawful.switch_opened (hlinking : r.state ≠ .linking) (hactive : r.state ≠ .active)
    (hpower : ¬r.poweringUp = true) : r.switch = .opened := by
  have hnot : r.switch ≠ .closed := fun hclosed => by
    rcases h.switch.1 hclosed with hstate | hstate | hup
    · exact hlinking hstate
    · exact hactive hstate
    · exact hpower hup
  cases hswitch : r.switch with
  | opened => rfl
  | closed => exact absurd hswitch hnot

/-- A port at rest in EMPTY: its switch open, no cause, command, timer or presentation. -/
theorem PortRec.Lawful.of_empty (hempty : r.state = .empty) :
    r.switch = .opened ∧ r.cause = none ∧ r.command = none ∧ r.timer = none ∧ r.desired = none ∧ r.lastSent = none ∧
      r.acked = none := by
  have hpower : ¬r.poweringUp = true := by simp [PortRec.poweringUp, hempty]
  have htimer : r.timer = none := by
    rcases r.timerFits_iff.1 h.timer with ⟨hstate, -⟩ | ⟨hstate, -⟩ | ⟨-, -, -, hnone⟩
    · rw [hempty] at hstate; cases hstate
    · rw [hempty] at hstate; cases hstate
    · exact hnone
  exact ⟨h.switch_opened (by simp [hempty]) (by simp [hempty]) hpower, h.cause_none (by simp [hempty]),
    h.command_none (by simp [hempty]), htimer, h.undelivered (by simp [hempty])⟩

/-- The timer that runs says the state and the command (R143, R144). -/
theorem PortRec.Lawful.timer_iff :
    (r.timer.any PortTimer.isPowerGood = true ↔ r.state = .powering ∧ r.command = some .powerOn) ∧
      (r.timer.any PortTimer.isDischarge = true ↔ r.state = .powering ∧ r.command = some .powerOff) ∧
      (r.timer.any PortTimer.isLink = true ↔ r.state = .linking) := by
  rcases r.timerFits_iff.1 h.timer with ⟨hstate, ⟨hcommand, htimer⟩ | ⟨hcommand, htimer⟩⟩ | ⟨hstate, hcommand, htimer⟩ |
    ⟨hpowering, hlinking, hcommand, htimer⟩
  · obtain ⟨k, hk, hgood⟩ := (Option.any_eq_true ..).1 htimer
    cases k <;> simp_all [PortTimer.isPowerGood, PortTimer.isDischarge, PortTimer.isLink]
  · obtain ⟨k, hk, hdischarge⟩ := (Option.any_eq_true ..).1 htimer
    cases k <;> simp_all [PortTimer.isPowerGood, PortTimer.isDischarge, PortTimer.isLink]
  · obtain ⟨k, hk, hlink⟩ := (Option.any_eq_true ..).1 htimer
    cases k <;> simp_all [PortTimer.isPowerGood, PortTimer.isDischarge, PortTimer.isLink]
  · rw [htimer]; simp [hpowering, hlinking]

theorem PortRec.Lawful.arrive_eq (hempty : r.state = .empty) :
    r.arrive = { r with state := .present, flags := r.flags ||| BerthKind.presence.mark } := by
  obtain ⟨hswitch, hcause, -, htimer, hdesired, hsent, hacked⟩ := h.of_empty hempty
  obtain ⟨⟩ := r
  cases hswitch; cases hcause; cases htimer; cases hdesired; cases hsent; cases hacked
  rfl

/-- Power good: LINKING with its link timer loaded (R143, R144). -/
theorem PortRec.Lawful.linkUp_eq (hstate : r.state = .powering) (hcommand : r.command = some .powerOn) (timing : PortTiming) :
    r.linkUp timing = { r with
      state := .linking, command := none, outcome := some .done, timer := some (.link (timing.linkS * 1000))
      flags := r.flags ||| BerthKind.portCommandDone.mark } := by
  have hswitch : r.switch = .closed := h.switch.2 (.inr (.inr (by simp [PortRec.poweringUp, hstate, hcommand])))
  have hcause := h.cause_none (by simp [hstate])
  obtain ⟨hdesired, hsent, hacked⟩ := h.undelivered (by simp [hstate])
  obtain ⟨⟩ := r
  cases hswitch; cases hcause; cases hdesired; cases hsent; cases hacked
  rfl

/-- The end of the discharge interval: PRESENT (R143). -/
theorem PortRec.Lawful.discharged_eq (hstate : r.state = .powering) (hcommand : r.command = some .powerOff) :
    r.discharged = { r with
      state := .present, command := none, outcome := some .done, timer := none
      flags := r.flags ||| BerthKind.portCommandDone.mark } := by
  have hswitch : r.switch = .opened := h.switch_opened (by simp [hstate]) (by simp [hstate])
    (by simp [PortRec.poweringUp, hcommand])
  have hcause := h.cause_none (by simp [hstate])
  obtain ⟨hdesired, hsent, hacked⟩ := h.undelivered (by simp [hstate])
  obtain ⟨⟩ := r
  cases hswitch; cases hcause; cases hdesired; cases hsent; cases hacked
  rfl

/-- A link timer that expires: FAULT(LINK) (R144). -/
theorem PortRec.Lawful.linkFailed_eq (hstate : r.state = .linking) :
    r.linkFailed = { r with
      state := .fault, cause := some .link, switch := .opened, timer := none
      flags := r.flags ||| BerthKind.linkFault.mark } := by
  obtain ⟨hdesired, hsent, hacked⟩ := h.undelivered (by simp [hstate])
  obtain ⟨⟩ := r
  cases hdesired; cases hsent; cases hacked
  rfl

end

section

variable (r : PortRec)

/-- A power fault, with the command in flight completed FAILED (R141, R142). -/
theorem PortRec.powerFailed_eq : r.powerFailed = { r with
    state := .fault, cause := some .power, switch := .opened, command := none
    outcome := if r.command.isSome then some .failed else r.outcome
    desired := none, lastSent := none, acked := none, timer := none
    flags := (if r.command.isSome then r.flags ||| BerthKind.portCommandDone.mark else r.flags) |||
      BerthKind.powerFault.mark } := by
  obtain ⟨_, _, _, _, command, _⟩ := r
  cases command with
  | none => rfl
  | some c => rfl

/-- A presence fall, with the command in flight completed ABORTED (R140). -/
theorem PortRec.fall_eq : r.fall = { r with
    state := .empty, cause := none, switch := .opened, command := none
    outcome := if r.command.isSome then some .aborted else r.outcome
    identity := none, headphones := false, desired := none, lastSent := none, acked := none, timer := none
    flags := (if r.command.isSome then r.flags ||| BerthKind.portCommandDone.mark else r.flags) |||
      BerthKind.presence.mark } := by
  obtain ⟨_, _, _, _, command, _⟩ := r
  cases command with
  | none => rfl
  | some c => rfl

end

section

variable {s : State} {p : Port}

theorem execPresenceRise_rises (hlow : s.senses.presence[p] = false) :
    execPresenceRise p s = .next ((s.sensePresence p true).rise p).settle := if_neg (by rw [hlow]; exact Bool.false_ne_true)

theorem State.rise_manual (hmanual : s.ports[p].auto = false) : s.rise p = s.mapPort p PortRec.arrive := by
  unfold State.rise State.mapPort PortRec.rise
  rw [hmanual]
  rfl

theorem State.rise_auto (hauto : s.ports[p].auto = true) {sensed : Bool} (hfault : s.senses.fault[p] = sensed) :
    s.rise p = s.mapPort p fun r => r.arrive.powerOn s.timing sensed := by
  unfold State.rise State.mapPort PortRec.rise
  rw [hauto, hfault]
  rfl

/-- A port timer's expiry that is late, or of a timer that does not run (logs 10, 13). -/
theorem unlessLate_stopped {f : PortTimer → Bool} {late : Bool} {u : Port → Answer}
    (h : late = true ∨ ¬s.ports[p].timer.any f = true) :
    unlessLate ⟨p, late⟩ s (fun p => if s.ports[p].timer.any f then u p else .next s) = .next s := by
  cases late with
  | true => rfl
  | false => exact if_neg (h.resolve_left Bool.false_ne_true)

theorem execPowerFault_steady {asserted : Bool} (h : asserted = false ∨ s.ports[p].switch = .opened ∨ s.senses.fault[p] = true) :
    execPowerFault p asserted s = .next (s.senseFault p asserted) := by
  refine if_neg fun hfault => ?_
  simp only [Bool.and_eq_true, Bool.not_eq_true', PortRec.powered, decide_eq_true_eq] at hfault
  obtain ⟨⟨hasserted, hlow⟩, hclosed⟩ := hfault
  rcases h with h | h | h
  · rw [hasserted] at h; cases h
  · rw [hclosed] at h; cases h
  · rw [hlow] at h; cases h

theorem execPowerFault_trips (hclosed : s.ports[p].switch = .closed) (hlow : s.senses.fault[p] = false) :
    execPowerFault p true s = .next ((s.senseFault p true).dropPort p PortRec.powerFailed).settle :=
  if_pos (by rw [hlow, PortRec.powered, hclosed]; rfl)

/-- The sense of a port and the pollers are written apart. -/
theorem State.senseFault_dropPort (b : Bool) (f : PortRec → PortRec) :
    (s.senseFault p b).dropPort p f = (s.dropPort p f).senseFault p b := by
  unfold State.dropPort State.leaveLink State.mapPoller
  cases deckOf p <;> rfl

end

end Sys2Proof.Machine
end

section
/-! PROOF. The berth ports (spec/09). -/

namespace Sys2Proof.Proofs

open Sys2Proof Sys2Proof.Machine

/-- Settles O48: the refusals, and the rows of the table of R142. -/
theorem portPower : Obligations.PortPower := by
  intro items s q hitems
  refine ⟨execPortPower_busy hitems, execPortPower_empty hitems, fun hidle hstate hon => ⟨fun hfault => ?_, fun hfault => ?_⟩,
    fun hidle hstate hon => ?_, fun hidle hstate hoff => ?_, fun hidle hstate hoff => ?_⟩
  · obtain ⟨hrest, hplugged⟩ := PortRec.resting hstate
    have hu := State.portPower_on_resting hrest hon
    rw [hfault, PortRec.powerOn_good] at hu
    have hport := s.set_ports_get q.port { s.ports[q.port] with
      state := .powering, cause := none, switch := .closed, request := .on, command := some .powerOn
      desired := none, lastSent := none, acked := none, timer := some (.powerGood s.timing.powerGoodMs) }
    refine (execPortPower_starts hitems hidle hplugged hu hport rfl byteOf_zero rfl).congr_data fun t ht => ?_
    have hcommand : t.ports[q.port].command = some .powerOn := by
      rw [ht.ports]; exact congrArg PortRec.command hport
    rw [hcommand]
    rfl
  · obtain ⟨hrest, hplugged⟩ := PortRec.resting hstate
    have hu := State.portPower_on_resting hrest hon
    rw [hfault, PortRec.powerOn_faulty] at hu
    exact execPortPower_completes hitems hidle hplugged hu (s.set_ports_get q.port _) rfl rfl byteOf_zero byteOf_one
  · obtain ⟨hpolled, hplugged⟩ := PortRec.running hstate
    have hu := State.portPower_on_polled hpolled hon
    rw [State.mapPort, PortRec.doneAtOnce_eq hidle] at hu
    exact execPortPower_completes hitems hidle hplugged hu (s.set_ports_get q.port _) hidle rfl byteOf_zero byteOf_zero
  · obtain ⟨hrest, hplugged⟩ := PortRec.resting hstate
    have hu := State.portPower_off_resting hrest hoff
    rw [State.mapPort, PortRec.doneAtOnce_eq hidle] at hu
    exact execPortPower_completes hitems hidle hplugged hu (s.set_ports_get q.port _) hidle rfl byteOf_one byteOf_zero
  · obtain ⟨hpolled, hplugged⟩ := PortRec.running hstate
    have hu := State.portPower_off_polled hpolled hoff
    have hport : (s.dropPort q.port PortRec.powerOff).ports[q.port] = s.ports[q.port].powerOff := by
      unfold State.dropPort
      rw [State.leaveLink_ports]
      exact s.set_ports_get q.port _
    exact execPortPower_starts hitems hidle hplugged hu hport rfl byteOf_one byteOf_one

/-- Settles O49: the configuration with the crew limit of the deck, the record with a bounded remaining time, the timing. -/
theorem portSettings : Obligations.PortSettings := by
  refine fun items s => ⟨fun q hitems => ?_, fun p hitems => ?_, fun c hitems => ?_⟩
  · intro r u marked
    have hmarked : (s.mapPort q.port q.apply).crewCount q.port = marked := by
      unfold State.crewCount
      simp only [deckOf_eq_iff]
      rfl
    refine ⟨fun hmany => ?_, fun hfew => ?_⟩
    · have hlimit : Config.crewLimit < (s.mapPort q.port q.apply).crewCount q.port := by rw [hmarked]; exact hmany
      simp only [exec, execPortConfig, hitems, if_pos hlimit]
      exact .of_refuse _ _ _
    · have hlimit : ¬Config.crewLimit < (s.mapPort q.port q.apply).crewCount q.port := by
        rw [hmarked]; exact Nat.not_lt.2 hfew
      have htakes : Takes (exec (.portConfig items) s) u 0x71#8 fun t => [t.ports[q.port].configBytes] := by
        simp only [exec, execPortConfig, hitems, if_neg hlimit]
        exact .of_accept rfl rfl
      refine htakes.congr_data fun t ht => ?_
      rw [ht.ports, show u.ports[q.port] = r from s.set_ports_get q.port r]
      rfl
  · refine ⟨optBytes bytes2 (s.ports[p].timer.map fun t => freeRemaining s.free t.ms), ?_, fun hnone => ?_, fun k hk => ?_⟩
    · simp only [exec, execPortQuery, hitems]
      rfl
    · rw [hnone]; rfl
    · rw [hk]
      exact ⟨freeRemaining s.free k.ms, freeRemaining_le _ _, rfl⟩
  · simp only [exec, execSetPortTiming, hitems]
    exact .of_accept rfl rfl

/-- Settles O50: the record each move makes of a lawful port, sense by sense and timer by timer. -/
theorem portEvents : Obligations.PortEvents := by
  refine ⟨fun s p hs => ?_, fun s p hs => ?_⟩
  · intro r put
    refine ⟨fun hlow => ?_, fun hhigh => ⟨if_pos hhigh, ?_⟩⟩
    · have hport : r.Lawful false := hlow ▸ hs.ports p
      have hempty : r.state = .empty := hport.sense.2 rfl
      have hexec : exec (.presenceRise p) s = .next ((s.sensePresence p true).rise p).settle := execPresenceRise_rises hlow
      rw [hexec]
      refine ⟨if_neg (by rw [hlow]; exact Bool.false_ne_true), fun hmanual => .of_settle ?_, fun hauto hfault => .of_settle ?_,
        fun hauto hfault => .of_settle ?_⟩
      · exact (State.rise_manual (s := s.sensePresence p true) hmanual).trans (congrArg (put true) (hport.arrive_eq hempty))
      · refine (State.rise_auto (s := s.sensePresence p true) hauto hfault).trans (congrArg (put true) ?_)
        show r.arrive.powerOn s.timing false = _
        obtain ⟨hswitch, hcause, hcommand, htimer, hdesired, hsent, hacked⟩ := hport.of_empty hempty
        rw [hport.arrive_eq hempty, PortRec.powerOn_good]
        simp only [hcause, hdesired, hsent, hacked]
      · refine (State.rise_auto (s := s.sensePresence p true) hauto hfault).trans (congrArg (put true) ?_)
        show r.arrive.powerOn s.timing true = _
        obtain ⟨hswitch, hcause, hcommand, htimer, hdesired, hsent, hacked⟩ := hport.of_empty hempty
        rw [hport.arrive_eq hempty, PortRec.powerOn_faulty]
        simp only [hdesired, hsent, hacked]
    · have hexec : exec (.presenceFall p) s = .next ((s.sensePresence p false).dropPort p PortRec.fall).settle := if_pos hhigh
      rw [hexec]
      exact .of_settle (congrArg (fun r' => (put false r').mapPoller (deckOf p) (Poller.discard p)) r.fall_eq)
  · intro r put drop powerFault sensed
    have hport := hs.ports p
    obtain ⟨hgood, hdischarge, hlink⟩ := hport.timer_iff
    have hdrop : ∀ {f : PortRec → PortRec} {r' : PortRec}, f r = r' → s.dropPort p f = drop (put r') := by
      rintro f _ rfl; rfl
    refine ⟨fun hclosed hlow => ?_, fun hsteady => execPowerFault_steady (.inr hsteady), execPowerFault_steady (.inl rfl),
      fun hstate hcommand => ⟨?_, ?_⟩, fun hnot => ⟨?_, fun late => ?_⟩, fun hnot late => ?_, fun hnot late => ?_,
      ⟨rfl, rfl, rfl⟩, fun hstate hcommand => ?_, fun hstate => ?_⟩
    · have hexec : exec (.powerFault p true) s = .next ((s.senseFault p true).dropPort p PortRec.powerFailed).settle :=
        execPowerFault_trips hclosed hlow
      rw [hexec]
      refine .of_settle ?_
      rw [State.senseFault_dropPort, hdrop r.powerFailed_eq]
      rfl
    · have hup : r.poweringUp = true := by simp [PortRec.poweringUp, hstate, hcommand]
      refine .of_eq ((if_pos hup).trans ?_)
      rw [State.mapPort, hport.linkUp_eq hstate hcommand]
    · have hexec : exec (.powerGoodTimerExpiry ⟨p, false⟩) s = .next (s.dropPort p PortRec.powerFailed).settle :=
        if_pos (hgood.2 ⟨hstate, hcommand⟩)
      rw [hexec]
      exact .of_settle (hdrop r.powerFailed_eq)
    · refine if_neg fun hup => hnot ?_
      simpa only [PortRec.poweringUp, Bool.and_eq_true, decide_eq_true_eq] using hup
    · simp only [exec, execPowerGoodTimerExpiry]
      exact unlessLate_stopped (.inr fun hruns => hnot (hgood.1 hruns))
    · simp only [exec, execDischargeEnd]
      exact unlessLate_stopped (.inr fun hruns => hnot (hdischarge.1 hruns))
    · simp only [exec, execLinkTimerExpiry]
      exact unlessLate_stopped (.inr fun hruns => hnot (hlink.1 hruns))
    · have hexec : exec (.dischargeEnd ⟨p, false⟩) s = .next (s.dropPort p PortRec.discharged).settle :=
        if_pos (hdischarge.2 ⟨hstate, hcommand⟩)
      rw [hexec]
      exact .of_settle (hdrop (hport.discharged_eq hstate hcommand))
    · have hexec : exec (.linkTimerExpiry ⟨p, false⟩) s = .next (s.dropPort p PortRec.linkFailed).settle :=
        if_pos (hlink.2 hstate)
      rw [hexec]
      exact .of_settle (hdrop (hport.linkFailed_eq hstate))

end Sys2Proof.Proofs
end

section
/-! SUPPORT. The deck pollers: modes, the choice of the next port, and what the end of a turn does (spec/10 R150 to R161; 02
R43 to R45). -/

namespace Sys2Proof.Machine

open Sys2Proof

/-! ### The search for a port (R150 to R155) -/

/-- The first port from the pointer that passes the test. -/
theorem searchOrder_find {start k : Fin 20} {f : Fin 20 → Bool} (hk : f k = true)
    (hbefore : ∀ m : Fin 20, (m - start).val < (k - start).val → f m = false) : (searchOrder start).find? f = some k := by
  have hget : ∀ (i : Nat) (h : i < (searchOrder start).length), (searchOrder start)[i] = start + ⟨i, by
      simpa [searchOrder] using h⟩ := fun i h => by simp [searchOrder]
  have hlength : (k - start).val < (searchOrder start).length := by simp [searchOrder]
  refine List.find?_eq_some_iff_getElem.2 ⟨hk, (k - start).val, hlength, ?_, fun j hj => ?_⟩
  · rw [hget _ hlength]
    exact add_sub_cancel start k
  · rw [hget j (hj.trans hlength), Bool.not_eq_true']
    refine hbefore _ ?_
    rw [add_sub_cancel_left]
    exact hj

/-- The first port of the deck that passes the test (R155). -/
theorem finRange_find {k : Fin 20} {f : Fin 20 → Bool} (hk : f k = true) (hbefore : ∀ m : Fin 20, m < k → f m = false) :
    (List.finRange 20).find? f = some k := by
  refine List.find?_eq_some_iff_getElem.2 ⟨hk, k.val, by simp, by simp, fun j hj => ?_⟩
  rw [List.getElem_finRange, Bool.not_eq_true']
  exact hbefore _ hj

theorem searchOrder_find_none {start : Fin 20} {f : Fin 20 → Bool} (h : ∀ k, f k = false) :
    (searchOrder start).find? f = none :=
  List.find?_eq_none.2 fun k _ => by rw [h k]; exact Bool.false_ne_true

section

variable {s : State} {d : Deck} {k : Fin 20} {pl : Poller}

theorem State.polledAt_iff : s.polledAt d k = true ↔
    s.ports[portOf d k].state = .linking ∨ s.ports[portOf d k].state = .active := PortRec.polled_iff

/-- The fourth condition of R153. -/
theorem PortRec.owesAck_iff (r : PortRec) : r.owesAck = true ↔
    r.state = .active ∧ ∃ e c, r.desired = some e ∧ e.audio = .announce c ∧ ∀ v ∈ r.acked, v.pres ≠ e := by
  have hacked : ∀ e : Presentation, r.acked.map Versioned.pres ≠ some e ↔ ∀ v ∈ r.acked, v.pres ≠ e := fun e => by
    cases r.acked <;> simp
  unfold PortRec.owesAck
  rw [Bool.and_eq_true, decide_eq_true_eq, Option.any_eq_true]
  refine and_congr_right fun _ => exists_congr fun e => ?_
  rw [Bool.and_eq_true, decide_eq_true_eq, hacked]
  cases haudio : e.audio <;> simp

/-- The four conditions of R153. -/
theorem State.prioritized_iff (s : State) (p : Port) : s.prioritized p = true ↔
    s.ports[p].crew = true ∨ (∃ b, s.slots[p] = some b ∧ b.image.state = .waking) ∨
      (∃ c, s.callOf p = some c ∧ c.state = .pending) ∨
      (s.ports[p].state = .active ∧ ∃ e c, s.ports[p].desired = some e ∧ e.audio = .announce c ∧
        ∀ v ∈ s.ports[p].acked, v.pres ≠ e) := by
  unfold State.prioritized
  rw [Bool.or_eq_true, Bool.or_eq_true, Bool.or_eq_true, or_assoc, or_assoc, State.image_any, Option.any_eq_true,
    State.callIn_iff, PortRec.owesAck_iff]
  simp only [decide_eq_true_eq]

/-! ### The choice of a mode (R152 to R155) -/

theorem Poller.choose_stopped (hmode : pl.mode = .stopped) : pl.choose s d = none := by
  unfold Poller.choose; rw [hmode]

theorem Poller.choose_round (hmode : pl.mode = .round) :
    pl.choose s d = ((searchOrder pl.round).find? (s.polledAt d)).map fun k => (k, { pl with round := k + 1 }) := by
  unfold Poller.choose; rw [hmode]

theorem Poller.choose_sweep (hmode : pl.mode = .singleSweep) :
    pl.choose s d = ((List.finRange 20).find? fun k => decide (pl.sweep ≤ k.val) && s.polledAt d k).map fun k =>
      (k, { pl with sweep := k.val + 1 }) := by
  unfold Poller.choose; rw [hmode]

theorem Poller.choose_priority (hmode : pl.mode = .priority) (hnext : pl.next = .priority) :
    pl.choose s d = (pl.drawPriority s d).or (pl.drawOrdinary s d) := by
  unfold Poller.choose; rw [hmode, hnext]

theorem Poller.choose_ordinary (hmode : pl.mode = .priority) (hnext : pl.next = .ordinary) :
    pl.choose s d = (pl.drawOrdinary s d).or (pl.drawPriority s d) := by
  unfold Poller.choose; rw [hmode, hnext]

/-- A draw from the priority list, with the first port of it from its pointer. -/
theorem Poller.drawPriority_first
    (hk : s.polledAt d k = true ∧ s.prioritized (portOf d k) = true)
    (hbefore : ∀ m : Fin 20, (m - pl.priority).val < (k - pl.priority).val →
      ¬(s.polledAt d m = true ∧ s.prioritized (portOf d m) = true)) :
    pl.drawPriority s d = some (k, { pl with priority := k + 1, next := .ordinary }) := by
  unfold Poller.drawPriority
  rw [searchOrder_find (Bool.and_eq_true_iff.2 hk) fun m hm => Bool.eq_false_iff.2 fun h =>
    hbefore m hm (Bool.and_eq_true_iff.1 h)]
  rfl

theorem Poller.drawPriority_none (h : ∀ m, ¬(s.polledAt d m = true ∧ s.prioritized (portOf d m) = true)) :
    pl.drawPriority s d = none := by
  unfold Poller.drawPriority
  rw [searchOrder_find_none fun m => Bool.eq_false_iff.2 fun hm => h m (Bool.and_eq_true_iff.1 hm)]
  rfl

/-- A draw from the ordinary list, with the first port of it from its pointer. -/
theorem Poller.drawOrdinary_first
    (hk : s.polledAt d k = true ∧ ¬s.prioritized (portOf d k) = true)
    (hbefore : ∀ m : Fin 20, (m - pl.ordinary).val < (k - pl.ordinary).val →
      ¬(s.polledAt d m = true ∧ ¬s.prioritized (portOf d m) = true)) :
    pl.drawOrdinary s d = some (k, { pl with ordinary := k + 1, next := .priority }) := by
  have htest : ∀ m, (s.polledAt d m && !s.prioritized (portOf d m)) = true ↔
      s.polledAt d m = true ∧ ¬s.prioritized (portOf d m) = true := fun m => by
    rw [Bool.and_eq_true, Bool.not_eq_true', Bool.not_eq_true]
  unfold Poller.drawOrdinary
  rw [searchOrder_find ((htest k).2 hk) fun m hm => Bool.eq_false_iff.2 fun h => hbefore m hm ((htest m).1 h)]
  rfl

theorem Poller.drawOrdinary_none (h : ∀ m, ¬(s.polledAt d m = true ∧ ¬s.prioritized (portOf d m) = true)) :
    pl.drawOrdinary s d = none := by
  unfold Poller.drawOrdinary
  rw [searchOrder_find_none fun m => ?_]
  · rfl
  · refine Bool.eq_false_iff.2 fun hm => h m ?_
    rwa [Bool.and_eq_true, Bool.not_eq_true', ← Bool.not_eq_true] at hm

/-- No mode finds a port where none is polled. -/
theorem Poller.choose_none (h : ∀ m, s.polledAt d m = false) : pl.choose s d = none := by
  have hpriority : pl.drawPriority s d = none := drawPriority_none fun m hm => by rw [h m] at hm; exact Bool.false_ne_true hm.1
  have hordinary : pl.drawOrdinary s d = none := drawOrdinary_none fun m hm => by rw [h m] at hm; exact Bool.false_ne_true hm.1
  cases hmode : pl.mode with
  | stopped => exact choose_stopped hmode
  | round => rw [choose_round hmode, searchOrder_find_none h]; rfl
  | priority =>
    cases hnext : pl.next with
    | priority => rw [choose_priority hmode hnext, hpriority, hordinary]; rfl
    | ordinary => rw [choose_ordinary hmode hnext, hpriority, hordinary]; rfl
  | singleSweep =>
    rw [choose_sweep hmode, List.find?_eq_none.2 fun m _ => by rw [h m, Bool.and_false]; exact Bool.false_ne_true]
    rfl

end

/-! ### The start of a turn (R155, R158) -/

section

variable {s : State} {d : Deck}

theorem State.startTurn_idle (hchoose : (s.poller d).choose s d = none) (hmode : (s.poller d).mode ≠ .singleSweep) :
    s.startTurn d = s := by
  unfold State.startTurn; rw [hchoose]; exact if_neg hmode

theorem State.startTurn_sweepEnds (hchoose : (s.poller d).choose s d = none) (hmode : (s.poller d).mode = .singleSweep) :
    s.startTurn d = (s.mapPoller d Poller.endSweep).flagCoach (sweepKind d) := by
  unfold State.startTurn; rw [hchoose]; exact if_pos hmode

theorem State.startTurn_chosen {k : Fin 20} {pl : Poller} (hchoose : (s.poller d).choose s d = some (k, pl)) :
    s.startTurn d = (s.mapPort (portOf d k) PortRec.polledOnce).mapPoller d fun _ =>
      pl.begin (portOf d k) s.ports[portOf d k] s.responseMs := by
  unfold State.startTurn; rw [hchoose]

theorem State.mapPort_same {p : Port} {f : PortRec → PortRec} (h : f s.ports[p] = s.ports[p]) : s.mapPort p f = s := by
  unfold State.mapPort
  rw [h, show s.ports.set p.val s.ports[p] = s.ports from Vector.set_getElem_self p.isLt]

theorem State.mapPort_mapPoller (p : Port) (f : PortRec → PortRec) (g : Poller → Poller) :
    (s.mapPort p f).mapPoller d g = { s.mapPoller d g with ports := s.ports.set p.val (f s.ports[p]) } := by
  cases d <;> rfl

end

section

variable {r : PortRec}

theorem PortRec.turnKind_linking (h : r.state = .linking) : r.turnKind = .identify := if_pos h

theorem PortRec.turnKind_active (h : r.state = .active) : r.turnKind = .normal := if_neg (by rw [h]; exact nofun)

/-- An Identify Poll changes no record. -/
theorem PortRec.polledOnce_linking (h : r.state = .linking) : r.polledOnce = r := by
  unfold PortRec.polledOnce; rw [turnKind_linking h]

theorem PortRec.polledOnce_active (h : r.state = .active) : r.polledOnce = r.sent := by
  unfold PortRec.polledOnce; rw [turnKind_active h]

theorem PortRec.poll_linking (p : Port) (h : r.state = .linking) : r.poll p = .identify p := by
  unfold PortRec.poll; rw [turnKind_linking h]

theorem PortRec.poll_active (p : Port) (h : r.state = .active) :
    r.poll p = .normal p r.directive r.lastTaken (r.verdicts.elim [] HeldVerdicts.verdicts) := by
  unfold PortRec.poll; rw [turnKind_active h]

end

/-! ### Modes (R156) -/

theorem Poller.takeMode_eq (m : PollMode) : Poller.takeMode m = fun pl => match m with
    | .stopped => { pl with mode := .stopped, pending := none }
    | .singleSweep => { pl with mode := .singleSweep, pending := none, sweep := 0 }
    | .round => { pl with mode := .round, pending := none }
    | .priority => { pl with mode := .priority, pending := none, next := .priority } := by
  funext pl; cases m <;> rfl

theorem Poller.endTurn_eq : Poller.endTurn = fun pl => match pl.pending with
    | none => { pl with turn := none }
    | some m => { pl with turn := none }.takeMode m := by
  funext pl
  unfold Poller.endTurn
  cases pl.pending <;> rfl

theorem State.modeData_respond (t : State) (code : Byte) (st : Status) (data : List (List Byte)) (ds : List Deck) :
    ds.flatMap (t.respond code st data).modeData = ds.flatMap t.modeData := rfl

theorem execSetPollMode_takes {items : List Item} {s : State} {q : PollModeParams} (hitems : pollModeParams items = some q) :
    Takes (execSetPollMode items s) (q.decks.decks.foldl (fun t d => t.setMode q.mode d) s) 0x80#8 fun t =>
      q.decks.decks.flatMap t.modeData := by
  simp only [execSetPollMode, hitems]
  exact .of_accept rfl (State.modeData_respond _ _ _ _ _)

/-! ### The end of a turn (R158, R159) -/

section

variable {s : State} {d : Deck} {t : Turn}

theorem execResponse_idle {late : Bool} (frame : List Byte) (h : late = true ∨ (s.poller d).turn = none) :
    execResponse d late frame s = .next s := by
  unfold execResponse
  cases late with
  | true => rfl
  | false => rw [h.resolve_left Bool.false_ne_true]; rfl

theorem execResponse_ends (frame : List Byte) (ht : (s.poller d).turn = some t) :
    execResponse d false frame s = .next (s.finishTurn d t (readReport t.kind t.port frame)) := by
  unfold execResponse; rw [ht]; rfl

theorem execResponseTimerExpiry_idle {late : Bool} (h : late = true ∨ (s.poller d).turn = none) :
    execResponseTimerExpiry ⟨d, late⟩ s = .next s := by
  unfold execResponseTimerExpiry
  cases late with
  | true => rfl
  | false =>
    rw [unlessLate_taken, h.resolve_left Bool.false_ne_true]

theorem execResponseTimerExpiry_ends (ht : (s.poller d).turn = some t) :
    execResponseTimerExpiry ⟨d, false⟩ s = .next (s.finishTurn d t none) := by
  unfold execResponseTimerExpiry
  rw [unlessLate_taken, ht]

theorem State.finishTurn_happens (s : State) (d : Deck) (t : Turn) (report : Option UnitReport) :
    Happens (.next (s.finishTurn d t report)) ((s.turnResult t report).nextTurn d) := .of_settle rfl

theorem State.turnResult_discarded (hdiscarded : t.discarded = true) (report : Option UnitReport) :
    s.turnResult t report = s := if_pos hdiscarded

section

variable (hkept : t.discarded = false)
include hkept

theorem State.turnResult_miss : s.turnResult t none = s.missTurn t := if_neg (by rw [hkept]; exact Bool.false_ne_true)

theorem State.turnResult_good (rep : UnitReport) : s.turnResult t (some rep) = s.takeGood t rep :=
  if_neg (by rw [hkept]; exact Bool.false_ne_true)

end

theorem State.missTurn_identify (hkind : t.kind = .identify) : s.missTurn t = s := by
  unfold State.missTurn; rw [hkind]

theorem State.missTurn_normal (hkind : t.kind = .normal) : s.missTurn t = s.mapPort t.port PortRec.miss := by
  unfold State.missTurn; rw [hkind]

theorem State.takeGood_identify (hkind : t.kind = .identify) (rep : UnitReport) :
    s.takeGood t rep = s.mapPort t.port (PortRec.identify rep) := by
  unfold State.takeGood; rw [hkind]

theorem State.takeGood_normal (hkind : t.kind = .normal) (rep : UnitReport) :
    s.takeGood t rep = s.takeReport t.port rep := by
  unfold State.takeGood; rw [hkind]

end

section

variable {r : PortRec} {rep : UnitReport} {i : Identity} (hidentity : rep.identity = some i)
include hidentity

theorem UnitReport.acceptable_iff : ((rep.identity.any Identity.acceptable) && !rep.fault) = true ↔
    (i.kind = .screenAudio ∨ i.kind = .audioOnly) ∧ i.level = 1 ∧ rep.fault = false := by
  rw [hidentity, Option.any_some, Bool.and_eq_true, Bool.not_eq_true', Identity.acceptable, Bool.and_eq_true, Bool.or_eq_true,
    decide_eq_true_eq, decide_eq_true_eq, decide_eq_true_eq, and_assoc]

/-- An Identify answer that is accepted (09 R144). -/
theorem PortRec.identify_accepted
    (h : (i.kind = .screenAudio ∨ i.kind = .audioOnly) ∧ i.level = 1 ∧ rep.fault = false) :
    r.identify rep = { r with
      identity := some i, headphones := rep.headphones, state := .active, cause := none, switch := .closed, timer := none
      desired := none, lastSent := none, acked := none, misses := 0, baseline := some rep.presses
      lastTaken := some rep.number, verdicts := none } := by
  unfold PortRec.identify
  dsimp only
  rw [if_pos ((UnitReport.acceptable_iff hidentity).2 h), hidentity]
  rfl

/-- An Identify answer that makes the port FAULT(UNIT) (09 R144). -/
theorem PortRec.identify_refused
    (h : ¬((i.kind = .screenAudio ∨ i.kind = .audioOnly) ∧ i.level = 1 ∧ rep.fault = false)) :
    r.identify rep =
      PortRec.unitFailed { r with identity := some i, headphones := rep.headphones, timer := none } := by
  unfold PortRec.identify
  dsimp only
  rw [if_neg (fun ok => h ((UnitReport.acceptable_iff hidentity).1 ok)), hidentity]

end

theorem PortRec.miss_counts {r : PortRec} (h : r.misses < 2) : r.miss = { r with misses := r.misses + 1 } := by
  have hbelow : ¬Config.missLimit ≤ r.misses + 1 := by
    show ¬3 ≤ r.misses + 1
    omega
  exact if_neg hbelow

theorem PortRec.miss_fails {r : PortRec} (h : 2 ≤ r.misses) :
    r.miss = PortRec.linkFailed { r with misses := r.misses + 1 } := by
  have hthird : Config.missLimit ≤ r.misses + 1 := by
    show 3 ≤ r.misses + 1
    omega
  exact if_pos hthird

section

variable {s : State} {p : Port} {rep : UnitReport}

theorem State.takeReport_fault (hfault : rep.fault = true) :
    s.takeReport p rep = s.mapPort p fun r => PortRec.unitFailed { r with misses := 0 } := if_pos hfault

theorem State.takeReport_good (hfault : rep.fault = false) :
    s.takeReport p rep =
      (((s.mapPort p (PortRec.takeReport rep)).presses p (newPresses s.ports[p].baseline rep.presses)).takeRequests p rep) :=
  if_neg (by rw [hfault]; exact Bool.false_ne_true)

theorem State.takeRequests_again (h : s.ports[p].lastTaken = some rep.number) : s.takeRequests p rep = s := if_pos h

theorem State.takeRequests_new (h : s.ports[p].lastTaken ≠ some rep.number) :
    s.takeRequests p rep = (s.passengers p rep.requests).2.mapPort p fun r =>
      { r with lastTaken := some rep.number
               verdicts := some { number := rep.number, verdicts := (s.passengers p rep.requests).1 } } := if_neg h

/-- The presses leave the last taken request number. -/
theorem State.presses_lastTaken (p : Port) (n : Nat) (s : State) : (s.presses p n).ports[p].lastTaken = s.ports[p].lastTaken := by
  obtain ⟨flags, hports⟩ := (State.sameLines_presses p n s).ports p
  rw [hports]

end

theorem PortRec.acknowledge_lastTaken (version : Option Nat) (r : PortRec) :
    (r.acknowledge version).lastTaken = r.lastTaken := by
  unfold PortRec.acknowledge
  split
  · split <;> rfl
  · rfl

end Sys2Proof.Machine
end

section
/-! PROOF. Deck bus polling (spec/10; 02 R43 to R45). -/

namespace Sys2Proof.Proofs

open Sys2Proof Sys2Proof.Machine

/-- Settles O51: the mode at each deck named, the response timeout, and the read. -/
theorem pollRequests : Obligations.PollRequests := by
  refine fun items s => ⟨fun m => ?_, fun ms hitems => ?_, fun d hitems => ?_⟩
  · intro effect at_ data
    have heffect : Poller.takeMode m = effect := Poller.takeMode_eq m
    have hat : ∀ (d : Deck) (u : State), u.setMode m d = at_ d u := fun d u => by
      unfold State.setMode; rw [heffect]
    have hone : ∀ (d : Deck) (t : State), [d].flatMap t.modeData = data t d := fun d t => List.append_nil _
    refine ⟨fun hitems => ?_, fun hitems => ?_, fun hitems => ?_⟩
    · have htakes := execSetPollMode_takes (s := s) hitems
      rw [← hat]
      exact htakes.congr_data fun t _ => hone .lower t
    · have htakes := execSetPollMode_takes (s := s) hitems
      rw [← hat]
      exact htakes.congr_data fun t _ => hone .upper t
    · have htakes := execSetPollMode_takes (s := s) hitems
      rw [← hat, ← hat]
      exact htakes.congr_data fun t _ => congrArg (data t .lower ++ ·) (hone .upper t)
  · simp only [exec, execSetPollTimeout, hitems]
    exact .of_accept rfl rfl
  · simp only [exec, execReadPoll, hitems]
    cases d with
    | lower => exact .of_answer _ _ _
    | upper => exact .of_answer _ _ _

/-- Settles O52: a frame or the response timer ends the turn in flight, and nothing else. -/
theorem turnEnds : Obligations.TurnEnds := by
  intro s d ended
  have hended : Poller.endTurn = ended := Poller.endTurn_eq
  refine ⟨fun hidle late => ⟨fun frame => execResponse_idle frame (.inr hidle), execResponseTimerExpiry_idle (.inr hidle)⟩,
    fun frame => execResponse_idle frame (.inl rfl), execResponseTimerExpiry_idle (.inl rfl), fun t ht => ⟨fun frame => ?_, ?_⟩⟩
  · have hexec : exec (.response d false frame) s = .next (s.finishTurn d t (readReport t.kind t.port frame)) :=
      execResponse_ends frame ht
    rw [hexec, ← hended]
    exact State.finishTurn_happens s d t _
  · have hexec : exec (.responseTimerExpiry ⟨d, false⟩) s = .next (s.finishTurn d t none) := execResponseTimerExpiry_ends ht
    rw [hexec, ← hended]
    exact State.finishTurn_happens s d t none

/-- Settles O53: nothing on a discarded result; the Identify answer; a miss, a unit fault, or the steps of R159. -/
theorem turnResults : Obligations.TurnResults := by
  intro s t rep p r put fault
  refine ⟨fun hdiscarded => ⟨State.turnResult_discarded hdiscarded _, State.turnResult_discarded hdiscarded _⟩,
    fun hkept hkind => ⟨?_, fun i hidentity => ?_⟩, fun hkept hkind => ⟨fun hfew => ?_, fun hmany => ?_, fun hfault => ?_,
      fun hfault => ?_⟩⟩
  · rw [State.turnResult_miss hkept, State.missTurn_identify hkind]
  · intro told
    rw [State.turnResult_good hkept, State.takeGood_identify hkind]
    exact ⟨fun h => congrArg put (PortRec.identify_accepted hidentity h),
      fun h => congrArg put (PortRec.identify_refused hidentity h)⟩
  · rw [State.turnResult_miss hkept, State.missTurn_normal hkind]
    exact congrArg put (PortRec.miss_counts hfew)
  · rw [State.turnResult_miss hkept, State.missTurn_normal hkind]
    exact congrArg put (PortRec.miss_fails hmany)
  · rw [State.turnResult_good hkept, State.takeGood_normal hkind, State.takeReport_fault hfault]
    rfl
  · intro told pressed
    have hlast : pressed.ports[p].lastTaken = r.lastTaken := by
      rw [State.presses_lastTaken, s.set_ports_get p _]
      exact PortRec.acknowledge_lastTaken rep.version _
    have hresult : s.turnResult t (some rep) = pressed.takeRequests p rep := by
      rw [State.turnResult_good hkept, State.takeGood_normal hkind, State.takeReport_good hfault]
      rfl
    refine ⟨fun hagain => ?_, fun hnew => ⟨(pressed.passengers p rep.requests).1, (pressed.passengers p rep.requests).2, rfl, ?_⟩⟩
    · rw [hresult, State.takeRequests_again (hlast.trans hagain)]
    · rw [hresult, State.takeRequests_new (by rw [hlast]; exact hnew)]
      rfl

/-- Settles O54: the first port of the search in each mode, the turn it gets, and the wake. -/
theorem nextTurn : Obligations.NextTurn := by
  intro s d pl port polled urgent first high low
  have hpolled : ∀ k, s.polledAt d k = true ↔ polled k := fun k => State.polledAt_iff
  have hurgent : ∀ k, s.prioritized (portOf d k) = true ↔ urgent k := fun k => State.prioritized_iff s _
  have hhigh : ∀ k, (s.polledAt d k = true ∧ s.prioritized (portOf d k) = true) ↔ high k := fun k =>
    and_congr (hpolled k) (hurgent k)
  have hlow : ∀ k, (s.polledAt d k = true ∧ ¬s.prioritized (portOf d k) = true) ↔ low k := fun k =>
    and_congr (hpolled k) (not_congr (hurgent k))
  have hunpolled : ∀ {k}, ¬polled k → s.polledAt d k = false := fun h => Bool.eq_false_iff.2 fun hk => h ((hpolled _).1 hk)
  have hnone : (∀ k, ¬polled k) → pl.choose s d = none := fun h => Poller.choose_none fun k => hunpolled (h k)
  refine ⟨fun hmode => ⟨Poller.choose_stopped hmode, ?_⟩, fun hmode => ⟨hnone, fun k hk => ?_⟩,
    fun hmode => ⟨hnone, fun k hk hturn => ?_, fun k hk hturn => ?_⟩, fun hmode => ⟨fun k hpast hk hbefore => ?_, fun hend => ?_⟩,
    fun hmode hidle => State.startTurn_idle (hnone hidle) hmode, fun hturn hmode => ?_, fun hbusy => ?_, fun k pl' hchoose => ?_⟩
  · exact State.startTurn_idle (Poller.choose_stopped hmode) (by rw [show (s.poller d).mode = .stopped from hmode]; exact nofun)
  · rw [Poller.choose_round hmode, searchOrder_find ((hpolled k).2 hk.1) fun m hm => hunpolled (hk.2 m hm)]
    rfl
  · have hdraw := Poller.drawPriority_first (pl := pl) ((hhigh k).2 hk.1) fun m hm h => hk.2 m hm ((hhigh m).1 h)
    cases hnext : pl.next with
    | priority => rw [Poller.choose_priority hmode hnext, hdraw]; rfl
    | ordinary =>
      have hnolow := hturn.resolve_left (by rw [hnext]; exact nofun)
      rw [Poller.choose_ordinary hmode hnext, Poller.drawOrdinary_none fun m h => hnolow m ((hlow m).1 h), hdraw]
      rfl
  · have hdraw := Poller.drawOrdinary_first (pl := pl) ((hlow k).2 hk.1) fun m hm h => hk.2 m hm ((hlow m).1 h)
    cases hnext : pl.next with
    | priority =>
      have hnohigh := hturn.resolve_left (by rw [hnext]; exact nofun)
      rw [Poller.choose_priority hmode hnext, Poller.drawPriority_none fun m h => hnohigh m ((hhigh m).1 h), hdraw]
      rfl
    | ordinary => rw [Poller.choose_ordinary hmode hnext, hdraw]; rfl
  · rw [Poller.choose_sweep hmode, finRange_find (Bool.and_eq_true_iff.2 ⟨decide_eq_true hpast, (hpolled k).2 hk⟩)
      fun m hm => Bool.eq_false_iff.2 fun h => ?_]
    swap
    · rw [Bool.and_eq_true, decide_eq_true_eq, hpolled] at h
      exact hbefore m h.1 hm h.2
    rfl
  · have hchoose : pl.choose s d = none := by
      rw [Poller.choose_sweep hmode, List.find?_eq_none.2 fun k _ => ?_]
      · rfl
      · by_cases hpast : pl.sweep ≤ k.val
        · rw [hunpolled (hend k hpast), Bool.and_false]; exact Bool.false_ne_true
        · rw [decide_eq_false hpast, Bool.false_and]; exact Bool.false_ne_true
    rw [State.startTurn_sweepEnds hchoose hmode]
    cases d <;> rfl
  · have hwake : ((s.poller d).turn.isNone && (decide ((s.poller d).mode = .round) || decide ((s.poller d).mode = .priority)))
        = true := by
      rw [show (s.poller d).turn = none from hturn]
      simpa using hmode
    exact if_pos hwake
  · refine if_neg fun hwake => hbusy ?_
    simpa only [Bool.and_eq_true, Option.isNone_iff_eq_none, Bool.or_eq_true, decide_eq_true_eq] using hwake
  · intro r
    rw [State.startTurn_chosen hchoose]
    refine ⟨fun hstate => ?_, fun hstate => ?_⟩
    · rw [State.mapPort_same (PortRec.polledOnce_linking hstate), Poller.begin, PortRec.turnKind_linking hstate,
        PortRec.poll_linking _ hstate]
    · rw [State.mapPort_mapPoller, PortRec.polledOnce_active hstate, Poller.begin, PortRec.turnKind_active hstate,
        PortRec.poll_active _ hstate]
      cases r.verdicts <;> rfl

end Sys2Proof.Proofs
end

section
/-! SUPPORT. The feeds, and what the forward media lanes carry (spec/11 R163 to R169; 02 R30; 04 R68). -/

namespace Sys2Proof.Machine

open Sys2Proof

/-! ### Playouts from a feed -/

theorem feed_of_feedSource {f : FeedIx} {src : Source} (h : feedSource f = some src) : src.feed = some f := by
  revert src; revert f; decide

theorem Roster.playingFrom_none {r : Roster} {src : Source}
    (h : ∀ g : Handle, ∀ b ∈ r.rec? g, b.state = .playing → b.source ≠ src) : r.playingFrom src = none := by
  cases hfound : r.playingFrom src with
  | none => rfl
  | some g =>
    obtain ⟨b, hb, hplaying, hsource⟩ := Roster.playingFrom_state hfound
    exact absurd hsource (h g b hb hplaying)

/-- A record whose source is the feed's is PLAYING from the feed. -/
theorem Roster.playingFrom_none_of_feed {r : Roster} {f : FeedIx} {src : Source} (hsrc : feedSource f = some src)
    (h : ∀ g : Handle, ∀ b ∈ r.rec? g, b.state = .playing → b.source.feed ≠ some f) : r.playingFrom src = none :=
  Roster.playingFrom_none fun g b hb hplaying hsource => h g b hb hplaying (hsource ▸ feed_of_feedSource hsrc)

theorem State.endPlayout_none {s : State} {f : FeedIx}
    (h : ∀ g : Handle, ∀ b ∈ s.roster.rec? g, b.state = .playing → b.source.feed ≠ some f) (reach : Bool) :
    s.endPlayout f reach = s := by
  unfold State.endPlayout
  cases hsrc : feedSource f with
  | none => rfl
  | some src =>
    have hdesk : s.deskAfter (fun env => Desk.endPlayoutFrom env src reach) = { roster := s.roster, coach := s.events.coach } := by
      simp only [State.deskAfter, Desk.endPlayoutFrom, Roster.playingFrom_none_of_feed hsrc h]
    show s.atDesk _ = s
    rw [State.atDesk_eq, hdesk]

/-! ### Frames and stalls -/

section
variable {s : State} {bytes : List Byte} {f : FeedIx}

theorem State.mediaFrame_dropped
    (h : readFeedFrame bytes = none ∨ ∃ g, readFeedFrame bytes = some g ∧ s.feeds[g.feed].state = .absent) :
    s.mediaFrame bytes = s := by
  unfold State.mediaFrame
  obtain hnone | ⟨g, hframe, habsent⟩ := h
  · rw [hnone]
  · rw [hframe]; exact if_pos habsent

theorem State.mediaFrame_data {payload : List Byte} (hframe : readFeedFrame bytes = some ⟨f, .data, payload⟩)
    (hpresent : s.feeds[f].state ≠ .absent) : s.mediaFrame bytes = (s.dataTaken ⟨f, .data, payload⟩).settle := by
  unfold State.mediaFrame
  rw [hframe]
  exact if_neg hpresent

/-- The end of an item on a feed that is not ACTIVE. -/
theorem State.mediaFrame_idle_end (hframe : readFeedFrame bytes = some ⟨f, .endOfItem, []⟩)
    (hpresent : s.feeds[f].state ≠ .absent) (hidle : s.feeds[f].state ≠ .active) : s.mediaFrame bytes = s.settle := by
  unfold State.mediaFrame State.endTaken
  rw [hframe]
  exact (if_neg hpresent).trans (congrArg State.settle (if_neg hidle))

/-- What a DATA frame changes (R165, R166). -/
theorem State.dataTaken_eq (s : State) (f : FeedIx) (payload : List Byte) :
    s.dataTaken ⟨f, .data, payload⟩ =
      { s with
        feeds := s.feeds.set f.val { s.feeds[f] with state := .active, timer := some s.stallMs }
        events := if s.feeds[f].state = .stalled then
            { s.events with coach := s.events.coach ||| CoachKind.feedResumed.mark }
          else s.events
        media := some { feed := f, channel := s.mediaChannel f, payload := payload } } := by
  unfold State.dataTaken
  dsimp only
  split <;> rfl

theorem execStallTimerExpiry_idle {late : Bool} (h : late = true ∨ s.feeds[f].timer = none) :
    execStallTimerExpiry ⟨f, late⟩ s = .next s := by
  cases late with
  | true => exact unlessLate_late f
  | false =>
    have hstopped : ¬s.feeds[f].timer.isSome = true := by
      rw [h.resolve_left Bool.false_ne_true]; exact Bool.false_ne_true
    exact (unlessLate_taken f).trans (if_neg hstopped)

end

/-! ### The lanes -/

section
variable {s : State} {c : Channel}

/-- The record on the air on a channel is the one that holds it. -/
theorem Roster.channelHolder_eq {r : Roster} {h : Handle} {a : Ann} (hr : r.Lawful) (ha : r.rec? h = some a)
    (hair : a.onAir = true) (hc : a.channel = some c) : r.channelHolder c = some h := by
  cases hfound : r.channelHolder c with
  | none => exact absurd hc (Roster.channelHolder_none.1 hfound h a ha hair)
  | some g =>
    obtain ⟨b, hb, hheld⟩ := Roster.test_eq_true.1 (List.find?_some hfound)
    rw [Bool.and_eq_true, decide_eq_true_eq] at hheld
    rw [hr.exclusive h g a ha b hb hair hheld.1 (.inl (hc.trans hheld.2.symm))]

theorem State.lane_program (s : State) (p : Program) :
    s.lane ⟨p.val, by omega⟩ = if (s.programFeed p).state = .active then .program p else .nothing := dif_pos p.isLt

/-- An announcement channel carries what the record that holds it sends. -/
theorem State.lane_channel (s : State) (c : Channel) :
    s.lane ⟨12 + c.val, by omega⟩ =
      match (s.roster.channelHolder c).bind s.roster.rec? with
      | some a => s.annLane a
      | none => .silence := by
  have hprogram : ¬12 + c.val < 12 := by omega
  have hann : 12 + c.val < 16 := by omega
  have hc : (⟨12 + c.val - 12, by omega⟩ : Channel) = c := Fin.ext (by simp)
  unfold State.lane
  rw [dif_neg hprogram, dif_pos hann]
  simp only [hc] <;> rfl

theorem State.lane_free (h : ∀ g : Handle, ∀ a ∈ s.roster.rec? g, a.onAir = true → a.channel ≠ some c) :
    s.lane ⟨12 + c.val, by omega⟩ = .silence := by
  rw [State.lane_channel, Roster.channelHolder_none.2 h]; rfl

theorem State.lane_held {h : Handle} {a : Ann} (hr : s.roster.Lawful) (ha : s.roster.rec? h = some a)
    (hair : a.onAir = true) (hc : a.channel = some c) : s.lane ⟨12 + c.val, by omega⟩ = s.annLane a := by
  rw [State.lane_channel, Roster.channelHolder_eq hr ha hair hc, Option.bind_some, ha]

theorem State.annLane_playing {a : Ann} (hplaying : a.state = .playing) :
    s.annLane a =
      match a.source with
      | .mic => .mic
      | .n0 => if s.feeds[(12 : FeedIx)].state = .active then .feed 12 else .silence
      | .n1 => if s.feeds[(13 : FeedIx)].state = .active then .feed 13 else .silence
      | .chime => .chimeTone
      | .alertTone => .alertTone := by
  have hleadIn : ¬a.state = .leadIn := by rw [hplaying]; exact nofun
  exact if_neg hleadIn

/-! ### The channel of a feed's payload -/

theorem feedSource_program (p : Program) : feedSource ⟨p.val, by omega⟩ = none := by revert p; decide

theorem feedSource_announce {f : FeedIx} (h : 12 ≤ f.val) : ∃ src, feedSource f = some src := by
  have hall : ∀ f : FeedIx, 12 ≤ f.val → (feedSource f).isSome = true := by decide
  exact Option.isSome_iff_exists.1 (hall f h)

theorem State.mediaChannel_program (s : State) (p : Program) : s.mediaChannel ⟨p.val, by omega⟩ = some p.val := by
  unfold State.mediaChannel; rw [feedSource_program]

theorem State.mediaChannel_none {f : FeedIx} (hf : 12 ≤ f.val)
    (h : ∀ g : Handle, ∀ a ∈ s.roster.rec? g, a.state = .playing → a.source.feed ≠ some f) : s.mediaChannel f = none := by
  obtain ⟨src, hsrc⟩ := feedSource_announce hf
  unfold State.mediaChannel
  rw [hsrc]
  dsimp only
  rw [Roster.playingFrom_none_of_feed hsrc h]
  rfl

theorem State.mediaChannel_playing {f : FeedIx} {h : Handle} {a : Ann} (hr : s.roster.Lawful)
    (ha : s.roster.rec? h = some a) (hplaying : a.state = .playing) (hf : a.source.feed = some f)
    (hc : a.channel = some c) : s.mediaChannel f = some (12 + c.val) := by
  unfold State.mediaChannel
  rw [feedSource_of_feed hf]
  dsimp only
  rw [Roster.playingFrom_eq hr ha hplaying (Source.exclusive_of_feed hf), Option.bind_some, ha, Option.bind_some, hc]
  rfl

end

end Sys2Proof.Machine
end

section
/-! PROOF. The feeds (spec/11 R163 to R169). -/

namespace Sys2Proof.Proofs

open Sys2Proof Sys2Proof.Machine

/-- Settles O55: a record PLAYING from the feed that goes ends with nobody reached; with none the event is the feed's own. -/
theorem feedRequests : Obligations.FeedRequests := by
  intro items s
  refine ⟨fun q hitems => ?_, fun f hitems => ?_, fun hitems => ?_, fun f hitems => ?_, fun ms hitems => ?_⟩
  · intro r r'
    have htakes : Takes (exec (.configureFeed items) s) (s.mapFeed q.feed (Feed.configure q.desc)) 0x88#8 fun t =>
        [t.feeds[q.feed].bytes] := by
      simp only [exec, execConfigureFeed, hitems]; exact .of_accept rfl rfl
    refine htakes.congr_data fun t ht => ?_
    have hfeed : t.feeds[q.feed] = r' := by
      rw [ht.field (fun s => s.feeds[q.feed]) fun _ _ _ _ => rfl]
      exact Vector.getElem_set_self _
    rw [hfeed]
    rfl
  · intro u
    refine ⟨fun habsent => ?_, fun hpresent hnone => ?_, fun hpresent hr h a ha hplaying hfeed => ?_⟩
    · simp only [exec, execUnconfigureFeed, hitems, if_pos habsent]; exact .of_refuse _ _ _
    · simp only [exec, execUnconfigureFeed, hitems, if_neg hpresent]
      exact .of_accept (State.endPlayout_none (s := u) hnone false) rfl
    · have htakes : Takes (exec (.unconfigureFeed items) s) (u.endPlayout f false) 0x89#8 fun _ => [] := by
        simp only [exec, execUnconfigureFeed, hitems, if_neg hpresent]; exact .of_accept rfl rfl
      obtain ⟨t, hexec, ht, hreply⟩ := htakes
      exact ⟨t, hexec, State.slotEnds_of_feed (u := u) hr ha hplaying hfeed false ht, hreply⟩
  · simp only [exec, execFeedQuery, hitems]; exact .of_answer _ _ _
  · simp only [exec, execFeedQuery, hitems]
    refine ⟨_, rfl, fun hstopped => ?_, fun loaded hrunning => ⟨freeRemaining s.free loaded, freeRemaining_le _ _, ?_⟩⟩
    · rw [hstopped]; rfl
    · rw [hrunning]; rfl
  · simp only [exec, execSetFeedStall, hitems]; exact .of_accept rfl rfl

/-- Settles O56: the frames and stalls that end no playout, and on the lanes the one record that holds a channel. -/
theorem feedFrames : Obligations.FeedFrames := by
  refine ⟨fun bytes s => ⟨fun hdropped => ?_, fun f payload hframe hpresent => ?_, fun f hframe hpresent =>
    ⟨fun hidle => ?_, fun hnone hactive => ?_⟩, fun f late h => execStallTimerExpiry_idle h, fun f hnone htimer => ?_⟩,
    fun s hr => ⟨s.lane_program, rfl, fun c => ⟨State.lane_free, fun h a ha hc => ⟨fun hleadIn => ?_, fun hplaying => ?_⟩⟩,
      s.mediaChannel_program, fun f hf => ⟨State.mediaChannel_none hf, fun h a c => State.mediaChannel_playing hr⟩⟩⟩
  · have hsame : (.next (s.mediaFrame bytes) : Answer) = .next s := congrArg _ (State.mediaFrame_dropped hdropped)
    exact ⟨hsame, hsame⟩
  · exact .of_eq (congrArg Host.Outcome.next ((State.mediaFrame_data hframe hpresent).trans
      (congrArg State.settle (s.dataTaken_eq f payload))))
  · exact .of_eq (congrArg Host.Outcome.next (State.mediaFrame_idle_end hframe hpresent hidle))
  · exact .of_eq (congrArg Host.Outcome.next ((State.mediaFrame_end hframe hactive).trans
      (congrArg State.settle (State.endPlayout_none
        (s := s.mapFeed f fun r => { r with state := .waiting, timer := none }) hnone true))))
  · exact .of_eq ((execStallTimerExpiry_taken htimer).trans (congrArg (fun u => Host.Outcome.next (State.settle u))
      (State.endPlayout_none
        (s := (s.mapFeed f fun r => { r with state := .stalled, timer := none }).flagCoach .feedStalled) hnone false)))
  · rw [State.lane_held hr ha (Ann.onAir_of_leadIn hleadIn) hc]; exact if_pos hleadIn
  · rw [State.lane_held hr ha (Ann.onAir_of_playing hplaying) hc]; exact State.annLane_playing hplaying

end Sys2Proof.Proofs
end

section
/-! SUPPORT. Transfers, the events and the digest (spec/12 R170, R171, R176 to R179). -/

namespace Sys2Proof.Machine

open Sys2Proof

/-! ### Transfers -/

section
variable {s : State}

theorem execBadRequest_cons {code : Byte} {rest : List Byte} (h : isBadRequest (code :: rest) = true) :
    execBadRequest (code :: rest) s = refuse code .badRequest s := if_pos h

theorem execBadRequest_nil : execBadRequest [] s = refuse (Config.freeByte s.free) .badRequest (s.useFree 1) :=
  if_pos (show isBadRequest [] = true by decide)

theorem State.readFrame_eq (s : State) :
    s.readFrame = match s.reply with
      | none => [0#8, 0#8, 0#8, 0#8]
      | some r => r.frame := by
  unfold State.readFrame
  cases s.reply <;> rfl

end

theorem noParams_nil : noParams [] = some () := by decide

/-! ### What is pending -/

/-- Two sets of marks meet exactly when they share a member. -/
theorem marks_meet_iff {n : Nat} {x y : BitVec n} :
    (x &&& y != 0#n) = true ↔ ∃ k : Fin n, x.getLsbD k.val = true ∧ y.getLsbD k.val = true := by
  rw [bne_iff_ne]
  refine ⟨fun hne => ?_, fun ⟨k, hx, hy⟩ hzero => ?_⟩
  · by_contra hnone
    refine hne (BitVec.eq_of_getLsbD_eq fun i hi => ?_)
    rw [BitVec.getLsbD_and, BitVec.getLsbD_zero, Bool.and_eq_false_imp]
    exact fun hx => Bool.eq_false_iff.2 fun hy => hnone ⟨⟨i, hi⟩, hx, hy⟩
  · have hbit : (x &&& y).getLsbD k.val = (0#n).getLsbD k.val := congrArg (fun v : BitVec n => v.getLsbD k.val) hzero
    rw [BitVec.getLsbD_and, hx, hy, BitVec.getLsbD_zero] at hbit
    exact Bool.noConfusion hbit

theorem mark_getLsbD {n : Nat} (y z : Fin n) : (1#n <<< y.val).getLsbD z.val = decide (z = y) := by
  rw [Bool.eq_iff_iff, decide_eq_true_eq, Fin.ext_iff, BitVec.getLsbD_shiftLeft, BitVec.getLsbD_one]
  simp only [Bool.and_eq_true, decide_eq_true_eq, Bool.not_eq_true', decide_eq_false_iff_not]
  omega

/-- The marks of the members of a list that pass a test. -/
theorem foldl_marks_getLsbD {n : Nat} (f : Fin n → Bool) (z : Fin n) (l : List (Fin n)) : ∀ v : BitVec n,
    (l.foldl (fun v z => if f z then v ||| 1#n <<< z.val else v) v).getLsbD z.val =
      (v.getLsbD z.val || (decide (z ∈ l) && f z)) := by
  induction l with
  | nil => intro v; exact (Bool.or_false _).symm
  | cons y l ih =>
    intro v
    rw [List.foldl_cons, ih]
    by_cases hzy : z = y
    · subst hzy
      cases hz : f z with
      | false => simp only [Bool.and_false, Bool.false_eq_true, if_false]
      | true => simp only [if_true, BitVec.getLsbD_or, mark_getLsbD, decide_true, Bool.or_true, Bool.true_or,
          List.mem_cons_self, Bool.true_and]
    · have hmem : decide (z ∈ y :: l) = decide (z ∈ l) :=
        decide_eq_decide.2 (List.mem_cons.trans (or_iff_right hzy))
      have hkept : (if f y then v ||| 1#n <<< y.val else v).getLsbD z.val = v.getLsbD z.val := by
        split
        · rw [BitVec.getLsbD_or, mark_getLsbD, decide_eq_false hzy, Bool.or_false]
        · rfl
      rw [hkept, hmem]

section
variable (s : State)

theorem State.portPending_iff (p : Port) : s.portPending p = true ↔
    ∃ k : Fin 10, s.ports[p].flags.getLsbD k.val = true ∧ s.events.berthEnables.getLsbD k.val = true := marks_meet_iff

theorem State.zonePending_iff (z : Fin 8) : s.zonePending z = true ↔ ∃ p : Port, s.ports[p].zone = z ∧ s.portPending p = true := by
  simp only [State.zonePending, List.any_eq_true, allPorts, List.mem_finRange, true_and, Bool.and_eq_true, beq_iff_eq]

/-- The law of ATTN (R177). -/
theorem State.attnLevel_iff : s.attnLevel = true ↔
    (∃ (p : Port) (k : Fin 10), s.ports[p].flags.getLsbD k.val = true ∧
      s.events.berthEnables.getLsbD k.val = true ∧ s.events.zoneEnables.getLsbD s.ports[p].zone.val = true) ∨
    ∃ k : Fin 8, s.events.coach.getLsbD k.val = true ∧ s.events.coachEnables.getLsbD k.val = true := by
  unfold State.attnLevel
  rw [Bool.or_eq_true, List.any_eq_true]
  refine or_congr ⟨fun ⟨z, _, hz⟩ => ?_, fun ⟨p, k, hflag, hkind, hzone⟩ => ?_⟩ marks_meet_iff
  · obtain ⟨hpending, hzone⟩ := Bool.and_eq_true_iff.1 hz
    obtain ⟨p, hp, hport⟩ := (s.zonePending_iff z).1 hpending
    obtain ⟨k, hflag, hkind⟩ := (s.portPending_iff p).1 hport
    exact ⟨p, k, hflag, hkind, hp ▸ hzone⟩
  · have hport : s.portPending p = true := (s.portPending_iff p).2 ⟨k, hflag, hkind⟩
    have hpending : s.zonePending s.ports[p].zone = true := (s.zonePending_iff _).2 ⟨p, rfl, hport⟩
    exact ⟨s.ports[p].zone, List.mem_finRange _, Bool.and_eq_true_iff.2 ⟨hpending, hzone⟩⟩

theorem State.zoneMarks_getLsbD (z : Fin 8) : s.zoneMarks.getLsbD z.val = s.zonePending z := by
  unfold State.zoneMarks
  rw [foldl_marks_getLsbD, BitVec.getLsbD_zero, Bool.false_or, decide_eq_true (List.mem_finRange z), Bool.true_and]

end

/-! ### The digest -/

theorem slotBytes_eq (o : Option Berth) : slotBytes o = match o with
    | none => [0#8]
    | some b => b.image.bytes := by
  cases o <;> rfl

/-- What a walk feeds, and the CRC by its settings (R178, R182). -/
theorem Walk.crc_eq (w : Walk) (slots : Vector (Option Berth) 40) :
    w.crc slots =
      let table : List Byte := allPorts.flatMap fun p => match slots[p] with
        | none => [0#8]
        | some b => b.image.bytes
      match w.poly, w.order with
      | .digestA, .msbFirst => crcUp 0x1021#16 table
      | .digestB, .msbFirst => crcUp 0x8005#16 table
      | .digestA, .lsbFirst => crcDown 0x8408#16 table
      | .digestB, .lsbFirst => crcDown 0xA001#16 table := by
  have htable : tableBytes slots = allPorts.flatMap fun p => match slots[p] with
      | none => [0#8]
      | some b => b.image.bytes :=
    congrArg (fun f => allPorts.flatMap f) (funext fun p => slotBytes_eq slots[p])
  unfold Walk.crc
  rw [htable] <;> cases w.poly <;> cases w.order <;> rfl

section
variable {s : State}

theorem execWalkComplete_idle (h : s.digest.walk = none) : execWalkComplete s = .next s := by
  unfold execWalkComplete; rw [h]

theorem execWalkComplete_ends {w : Walk} (h : s.digest.walk = some w) : execWalkComplete s =
    .next ({ s with digest := { s.digest with settled := w.crc s.slots, walk := none } }.flagCoach .digestSettled).settle := by
  unfold execWalkComplete; rw [h]

end

end Sys2Proof.Machine
end

section
/-! PROOF. Transfers, the events and the digest (spec/12 R170, R171, R176 to R179). -/

namespace Sys2Proof.Proofs

open Sys2Proof Sys2Proof.Machine

/-- Settles O58: a write that cannot be parsed answers its first byte, and a read clocks out the frame it finds. -/
theorem transfers : Obligations.Transfers := by
  refine ⟨fun code rest s hbad => execBadRequest_cons hbad, fun s => ⟨Config.freeByte s.free, execBadRequest_nil⟩,
    fun n s => ?_⟩
  intro frame
  have hframe : frame = s.readFrame := s.readFrame_eq.symm
  refine ⟨(List.range (n - frame.length)).map fun k => Config.freeByte (s.free + k), by simp, ?_⟩
  rw [List.length_map, List.length_range, hframe]
  rfl

/-- Settles O59: a kind, a zone or a flag is pending by the bits two sets of marks share. -/
theorem eventRequests : Obligations.EventRequests := by
  refine ⟨fun s => ⟨s.portPending_iff, s.zonePending_iff, s.attnLevel_iff⟩, fun items s =>
    ⟨fun q hitems => ?_, fun hempty => ?_, fun p hitems => ?_, fun q hitems => ?_, fun kinds hitems => ?_⟩⟩
  · intro on e
    have htakes : Takes (exec (.setEventEnables items) s) { s with events := e } 0x92#8 fun t => t.events.enableData := by
      simp only [exec, execSetEventEnables, hitems]; exact .of_accept rfl rfl
    refine htakes.congr_data fun t ht => ?_
    rw [ht.events]
    rfl
  · subst hempty
    refine ⟨s.zoneMarks, s.zoneMarks_getLsbD, ?_⟩
    simp only [exec, execReadSummary, noParams_nil]
    exact .of_answer _ _ _
  · simp only [exec, execReadBerthEvents, hitems]; exact .of_answer _ _ _
  · intro r
    have htakes : Takes (exec (.ackBerthEvents items) s) (s.mapPort q.port (PortRec.ack q.kinds)) 0x95#8 fun t =>
        [marksBytes t.ports[q.port].flags] := by
      simp only [exec, execAckBerthEvents, hitems]; exact .of_accept rfl rfl
    refine htakes.congr_data fun t ht => ?_
    have hflags : t.ports[q.port].flags = r.flags := by
      rw [ht.ports]
      exact (congrArg PortRec.flags (s.set_ports_get q.port r) :)
    rw [hflags]
  · have htakes : Takes (exec (.ackCoachEvents items) s) { s with events := s.events.ack kinds } 0x96#8 fun t =>
        [marksBytes t.events.coach] := by
      simp only [exec, execAckCoachEvents, hitems]; exact .of_accept rfl rfl
    refine htakes.congr_data fun t ht => ?_
    rw [ht.events]
    rfl

/-- Settles O60: a walk runs under the settings of its start, and what it feeds is the image of every slot. -/
theorem digestRules : Obligations.DigestRules := by
  refine ⟨fun items s c hitems => ?_, fun s => ?_, fun s hidle => execWalkComplete_idle hidle,
    fun s w hwalk => ?_⟩
  · intro poly order
    simp only [exec, execSetDigest, hitems]; exact .of_accept rfl rfl
  · simp only [exec, execReadDigest, noParams_nil]
    exact .of_answer _ _ _
  · intro table
    refine .of_eq ((execWalkComplete_ends hwalk).trans ?_)
    rw [Walk.crc_eq]
    rfl

end Sys2Proof.Proofs
end

section
/-! SUPPORT. The three resets (spec/12 R174, R175; 09 R149). -/

namespace Sys2Proof.Machine

open Sys2Proof

/-! ### The senses read after a reset -/

section
variable (pins : Vector Bool 40)

/-- Taking ports as presence rises writes port records alone. -/
theorem State.foldl_rise_eq (l : List Port) : ∀ s : State,
    (l.foldl (fun t p => if pins[p] then t.rise p else t) s) =
      { s with ports := (l.foldl (fun t p => if pins[p] then t.rise p else t) s).ports } := by
  induction l with
  | nil => intro s; rfl
  | cons q l ih =>
    intro s
    by_cases hhigh : pins[q] = true
    · rw [List.foldl_cons, if_pos hhigh]
      exact ih (s.rise q)
    · rw [List.foldl_cons, if_neg hhigh]
      exact ih s

/-- Each port of the list is taken once, by the timing and the senses as they stand. -/
theorem State.foldl_rise_ports (p : Port) (l : List Port) : l.Nodup → ∀ s : State,
    (l.foldl (fun t p => if pins[p] then t.rise p else t) s).ports[p] =
      if p ∈ l ∧ pins[p] = true then s.ports[p].rise s.timing s.senses.fault[p] else s.ports[p] := by
  induction l with
  | nil => intro _ s; exact (if_neg fun h => absurd h.1 List.not_mem_nil).symm
  | cons q l ih =>
    intro hnodup s
    obtain ⟨hq, hl⟩ := List.nodup_cons.1 hnodup
    rw [List.foldl_cons, ih hl]
    by_cases hpq : p = q
    · subst hpq
      rw [if_neg fun h => hq h.1]
      by_cases hhigh : pins[p] = true
      · rw [if_pos hhigh, if_pos ⟨List.mem_cons_self, hhigh⟩, State.rise, State.mapPort_get, if_pos rfl]
      · rw [if_neg hhigh, if_neg fun h => hhigh h.2]
    · have hmem : p ∈ q :: l ↔ p ∈ l := List.mem_cons.trans (or_iff_right hpq)
      simp only [hmem]
      by_cases hhigh : pins[q] = true
      · have hother : (s.rise q).ports[p] = s.ports[p] := by rw [State.rise, State.mapPort_get, if_neg hpq]
        rw [if_pos hhigh, hother]
        rfl
      · rw [if_neg hhigh]

end

theorem State.readSenses_eq (s : State) : s.readSenses = { s with ports := s.readSenses.ports } :=
  State.foldl_rise_eq s.senses.presence allPorts s

theorem State.readSenses_get (s : State) (p : Port) : s.readSenses.ports[p] =
    if s.senses.presence[p] = true then s.ports[p].rise s.timing s.senses.fault[p] else s.ports[p] := by
  refine (State.foldl_rise_ports s.senses.presence p allPorts (List.nodup_finRange 40) s).trans ?_
  simp only [allPorts, List.mem_finRange, true_and]

/-! ### Power-on reset -/

/-- Reset with the queue and the counter of free values kept (log 9). -/
def State.blankKept (pins : Pins) (s : State) : State := { State.blank pins with pending := s.pending, free := s.free }

section
variable (pins : Pins) (s : State)

theorem State.afterReset_settled : (s.blankKept pins).readSenses.SettledFrom (s.afterReset pins) :=
  State.settle_settledFrom _

/-- A port of the state after reset, with its presence and power-fault senses. -/
def PortRec.sensed (p : Port) (high faulty : Bool) : PortRec :=
  if high = true then (PortRec.atReset p).rise { powerGoodMs := 100, linkS := 2 } faulty else PortRec.atReset p

theorem State.blankKept_readSenses_get (p : Port) :
    (s.blankKept pins).readSenses.ports[p] = PortRec.sensed p pins.presence[p] pins.fault[p] := by
  have hport : (s.blankKept pins).ports[p] = PortRec.atReset p := State.blank_ports_get pins p
  rw [State.readSenses_get, hport]
  rfl

theorem PortRec.sensed_low (p : Port) (faulty : Bool) : PortRec.sensed p false faulty = PortRec.atReset p := rfl

theorem PortRec.sensed_good (p : Port) : PortRec.sensed p true false = { PortRec.atReset p with
    state := .powering, switch := .closed, request := .on, command := some .powerOn
    timer := some (.powerGood 100), flags := BerthKind.presence.mark } := by
  rw [← BitVec.zero_or (x := BerthKind.presence.mark)]
  rfl

theorem PortRec.sensed_faulty (p : Port) : PortRec.sensed p true true = { PortRec.atReset p with
    state := .fault, cause := some .power, request := .on, outcome := some .failed
    flags := BerthKind.presence.mark ||| BerthKind.portCommandDone.mark ||| BerthKind.powerFault.mark } := by
  rw [← BitVec.zero_or (x := BerthKind.presence.mark)]
  rfl

/-- No port is ACTIVE, so nothing is desired. -/
theorem PortRec.sensed_inactive (p : Port) (high faulty : Bool) :
    (PortRec.sensed p high faulty).state ≠ .active ∧ (PortRec.sensed p high faulty).desired = none := by
  cases high with
  | false => exact ⟨nofun, rfl⟩
  | true => cases faulty <;> exact ⟨nofun, rfl⟩

theorem State.resolve_inactive {t : State} {p : Port} (h : t.ports[p].state ≠ .active) : t.resolve p = none := if_neg h

theorem State.afterReset_get (p : Port) :
    (s.afterReset pins).ports[p] = PortRec.sensed p pins.presence[p] pins.fault[p] := by
  obtain ⟨hinactive, hdesired⟩ := PortRec.sensed_inactive p pins.presence[p] pins.fault[p]
  have hport := (s.afterReset_settled pins).ports p
  rw [State.blankKept_readSenses_get] at hport
  have hstate : (s.afterReset pins).ports[p].state ≠ .active := by
    rw [hport]; exact hinactive
  rw [State.resolve_inactive hstate] at hport
  rw [hport, ← hdesired]

theorem State.settle_reply (u : State) : u.settle.reply = u.reply := rfl

theorem State.afterReset_reply : (s.afterReset pins).reply = none := by
  rw [State.afterReset, State.settle_reply, State.readSenses_eq]
  rfl

/-- An empty Roster has no record to depart. -/
theorem Roster.depart_atReset (ports : Vector PortRec 40) (counter : BitVec 32) :
    Roster.depart ports { Roster.atReset with counter := counter } = { Roster.atReset with counter := counter } := by
  have hrecs : (Vector.ofFn fun h : Handle => (Roster.atReset.recs[h]).map (Ann.depart ports)) = Roster.atReset.recs := by
    refine Vector.ext fun i hi => ?_
    simp [Roster.atReset]
  exact congrArg (fun recs => ({ Roster.atReset with recs := recs, counter := counter } : Roster)) hrecs

/-- What settles over an empty Roster is settled in the desired presentations and ATTN alone. -/
theorem State.SettledFrom.eq_of_empty {u v t : State} (h : u.SettledFrom t) (hu : u = { v with ports := u.ports })
    (hroster : v.roster = Roster.atReset) (hreply : t.reply = v.reply) :
    t = { v with ports := t.ports, events := { v.events with attn := t.attnLevel } } := by
  have hkept : t.roster = v.roster := by
    have hsame : u.roster = v.roster := by rw [hu]
    rw [h.roster, hsame, hroster]
    exact Roster.depart_atReset _ _
  have hevents : t.events = { v.events with attn := t.attnLevel } := by
    have hsame : u.events = v.events := by rw [hu]
    rw [h.events, hsame]
  calc t = { u with ports := t.ports, roster := t.roster, events := t.events, reply := t.reply } := h.rest
    _ = { u with ports := t.ports, roster := v.roster, events := { v.events with attn := t.attnLevel }, reply := v.reply } := by
        rw [hkept, hevents, hreply]
    _ = { v with ports := t.ports, events := { v.events with attn := t.attnLevel } } :=
        congrArg (fun x : State => { x with
          ports := t.ports, roster := v.roster, events := { v.events with attn := t.attnLevel }, reply := v.reply }) hu

/-- Everything but the ports after a reset. -/
theorem State.afterReset_rest : s.afterReset pins = { s.blankKept pins with
    ports := (s.afterReset pins).ports
    events := { (State.blank pins).events with attn := (s.afterReset pins).attnLevel } } :=
  (s.afterReset_settled pins).eq_of_empty (s.blankKept pins).readSenses_eq rfl (s.afterReset_reply pins)

end

/-! ### TRIP_RESET (R175, 01 R27) -/

/-- The flags kept are those of the other kinds. -/
theorem tripMarks_compl : ~~~tripMarks = BerthKind.presence.mark ||| BerthKind.powerFault.mark |||
    BerthKind.linkFault.mark ||| BerthKind.portCommandDone.mark := by decide

theorem PortRec.tripped_eq (r : PortRec) : r.tripped = { r with
    verdicts := none
    flags := r.flags &&& (BerthKind.presence.mark ||| BerthKind.powerFault.mark ||| BerthKind.linkFault.mark |||
      BerthKind.portCommandDone.mark) } := by
  rw [← tripMarks_compl]
  rfl

section
variable {s : State}

/-- What TRIP_RESET clears and keeps, before the waiting copy of a wake profile is made. -/
def State.tripCleared (s : State) : State :=
  { s with
    slots := Vector.replicate 40 none
    roster := { recs := Vector.replicate 16 none, order := [], counter := s.roster.counter }
    calls := []
    ports := s.ports.map fun r => { r with
      verdicts := none
      flags := r.flags &&& (BerthKind.presence.mark ||| BerthKind.powerFault.mark ||| BerthKind.linkFault.mark |||
        BerthKind.portCommandDone.mark) }
    digest := { s.digest with walk := some ⟨s.digest.poly, s.digest.order⟩ } }

theorem State.tripReset_eq (s : State) : s.tripReset = s.tripCleared.copyIfIdle := by
  have htripped : PortRec.tripped = fun r => _ := funext PortRec.tripped_eq
  unfold State.tripReset
  rw [htripped]
  rfl

/-- With every slot vacant no ramp runs, so a waiting copy is made at once (06 R102). -/
theorem State.tripCleared_copies (s : State) : s.tripCleared.copyIfIdle = { s.tripCleared with
    wake := if s.wake.waiting then { active := s.wake.pending, pending := s.wake.pending, waiting := false }
      else s.wake } := by
  have hidle : ∀ q : Port, ∀ b ∈ s.tripCleared.slots[q], b.ramp = none := fun q b hb => by
    have hvacant : s.tripCleared.slots[q] = none := Vector.getElem_replicate _
    rw [hvacant] at hb
    cases hb
  by_cases hwaits : s.wake.waiting = true
  · rw [if_pos hwaits]
    exact State.copyIfIdle_copies (s := s.tripCleared) hwaits hidle
  · rw [if_neg hwaits]
    exact State.copyIfIdle_waits (s := s.tripCleared) fun h => hwaits h.1

theorem execTripReset_active (h : s.alert.state ≠ .clear) : execTripReset [] s = refuse 0x91#8 .alertActive s := by
  simp only [execTripReset, noParams_nil, if_neg h]

theorem execTripReset_clear (h : s.alert.state = .clear) :
    execTripReset [] s = accept 0x91#8 (fun _ => []) s.tripReset := by
  simp only [execTripReset, noParams_nil, if_pos h]

end

end Sys2Proof.Machine
end

section
/-! PROOF. The three resets (spec/12 R174, R175). -/

namespace Sys2Proof.Proofs

open Sys2Proof Sys2Proof.Machine

/-- Settles O57: the senses are read port by port into an empty machine; a trip reset leaves no ramp running. -/
theorem resets : Obligations.Resets := by
  refine ⟨fun s => ?_, fun s => ⟨fun hactive => execTripReset_active hactive, fun hclear => ?_⟩⟩
  · intro reset
    have hreset : ∀ pins : Pins, reset pins (s.afterReset pins) := fun pins => by
      refine ⟨s.afterReset_rest pins, fun p => ?_⟩
      rw [State.afterReset_get, show State.reset.ports[p] = PortRec.atReset p from State.blank_ports_get _ p]
      refine ⟨fun hlow => ?_, fun hhigh hgood => ?_, fun hhigh hfaulty => ?_⟩
      · rw [hlow, PortRec.sensed_low]
      · rw [hhigh, hgood, PortRec.sensed_good]
      · rw [hhigh, hfaulty, PortRec.sensed_faulty]
    exact ⟨fun pins => ⟨_, rfl, hreset pins⟩, fun _ => ⟨_, rfl, hreset s.pins⟩⟩
  · have hexec : exec (.tripReset []) s = accept 0x91#8 (fun _ => []) s.tripReset := execTripReset_clear hclear
    rw [hexec]
    exact .of_accept (s.tripReset_eq.trans s.tripCleared_copies) rfl

end Sys2Proof.Proofs
end
